-- ==== Sys2Proof/Word.lean ====
section
/-! DEFINITION. The block's word types (00_scope.md R8, R10) and their plainest helper. -/

namespace Sys2Proof

/-- A byte: 8 bits, bit 7 the most significant (R10). -/
abbrev Byte := BitVec 8

/-- A byte string; index 0 is the first byte sent or stored (R10). -/
abbrev Bytes := List Byte

/-- A CRC value: CRC_WIDTH = 16 bits (R8). -/
abbrev CrcWord := BitVec 16

/-- A counter register: W_COUNT = 32 bits, unsigned (R8; log 11). -/
abbrev Word := BitVec 32

/-- `rep(b, n)`: `n` copies of byte `b` (R10). -/
abbrev rep (b : Byte) (n : Nat) : Bytes := List.replicate n b

end Sys2Proof
end

