-- ==== Sys2Proof/Config.lean ====
section
/-! DEFINITION. The block's fixed sizes and values (00_scope.md R8) and the byte values of the two byte codes
it speaks (30_encoding.md R71, R73, R77). No value here is left open: the two parameters the spec names,
W_COUNT and MAX_FILE_BYTES, stand at the values its vectors use (log 11). -/

namespace Sys2Proof.Config

/-- SHORT_PAYLOAD (R8). -/
def shortPayload : Nat := 128
/-- LONG_PAYLOAD (R8). -/
def longPayload : Nat := 1024
/-- MAX_NAME (R8). -/
def maxName : Nat := 123
/-- MAX_FILE_BYTES (R8, D2; log 11). -/
def maxFileBytes : Nat := 4294967295
/-- ACK_STRIDE: bytes per acknowledged data frame (R8). -/
def ackStride : Nat := 1024
/-- CRC_POLY: x¹⁶+x¹²+x⁵+1 without the x¹⁶ term (R8). -/
def crcPoly : CrcWord := 0x1021#16
/-- PAD_BYTE (R8). -/
def padByte : Byte := 0x1A#8
/-- Marker 0x01 of the 128-byte layout, called SOH (30_encoding.md R73, R74). -/
def markerShort : Byte := 0x01#8
/-- Marker 0x02 of the 1024-byte layout, called STX (30_encoding.md R73, R74). -/
def markerLong : Byte := 0x02#8
/-- EOT_BYTE (R8). -/
def eotByte : Byte := 0x04#8
/-- Control byte `C` (30_encoding.md R71). -/
def byteC : Byte := 0x43#8
/-- Control byte ACK (30_encoding.md R71). -/
def byteAck : Byte := 0x06#8
/-- Control byte NAK (30_encoding.md R71). -/
def byteNak : Byte := 0x15#8
/-- Control byte CA (30_encoding.md R71). -/
def byteCa : Byte := 0x18#8

end Sys2Proof.Config
end

