-- ==== Sys2Proof/Syntax.lean ====
section
/-! DEFINITION. The instructions, one constructor per row of opcode_table.json; the encoded form in which they
reach the decoder; the fault causes a command can answer. -/

namespace Sys2Proof

/-- One constructor per row of opcode_table.json. Operands of host commands and channel events are values handed
over with the command, not bit fields (30_encoding.md R87). -/
inductive Instr where
  /-- RX_C, 0x43 (42_sequencer.md R155). -/
  | rxC
  /-- RX_ACK, 0x06 (R156). -/
  | rxAck
  /-- RX_NAK, 0x15 (R158). -/
  | rxNak
  /-- RX_CA, 0x18 (R159). -/
  | rxCa
  /-- RX_OTHER with its field `b`, any other byte (R160). -/
  | rxOther (b : Byte)
  /-- CRC, host command 0x01 (40_crc.md R102). `seed` is handed over as a natural: one above 0xFFFF is refused (R106). -/
  | crc (buf : Bytes) (start len seed : Nat)
  /-- BUILD_HEADER, host command 0x02 (41_framer.md R124). -/
  | buildHeader (name : Bytes) (size : Nat)
  /-- BUILD_DATA, host command 0x03 (41_framer.md R128). -/
  | buildData (buf : Bytes)
  /-- START, host command 0x10 (42_sequencer.md R150). -/
  | start (name file : Bytes)
  /-- ABORT, host command 0x11 (R167). -/
  | abort
  /-- RESET, a signal (70_reset_and_hazards.md R230). -/
  | reset
  /-- RX_CHUNK, channel event 0x20 (42_sequencer.md R163). -/
  | rxChunk (bytes : Bytes)
  /-- WRITE_DONE with ok = 1, channel event 0x21 (R168). -/
  | writeDoneOk
  /-- WRITE_DONE with ok = 0, channel event 0x21 (R169). -/
  | writeDoneFail
  /-- SOH128, the 133-byte outbound frame (41_framer.md R120); complement and CRC follow from the fields (R73). -/
  | soh128 (seq : Byte) (payload : Bytes)
  /-- STX1024, the 1029-byte outbound frame (R120). -/
  | stx1024 (seq : Byte) (payload : Bytes)
  /-- EOT, the outbound byte 0x04 (R130). -/
  | eot
  /-- EOS, the constant outbound frame (R129). -/
  | eos
  deriving DecidableEq, Repr

/-- The "format" column of opcode_table.json, FRAME and TXBYTE together as the outbound stream. -/
inductive Format where
  | rxByte | hostCmd | chanEvt | signal | outbound
  deriving DecidableEq, Repr

/-- The format of an instruction's row. -/
def Instr.format : Instr → Format
  | .rxC => .rxByte
  | .rxAck => .rxByte
  | .rxNak => .rxByte
  | .rxCa => .rxByte
  | .rxOther _ => .rxByte
  | .crc _ _ _ _ => .hostCmd
  | .buildHeader _ _ => .hostCmd
  | .buildData _ => .hostCmd
  | .start _ _ => .hostCmd
  | .abort => .hostCmd
  | .reset => .signal
  | .rxChunk _ => .chanEvt
  | .writeDoneOk => .chanEvt
  | .writeDoneFail => .chanEvt
  | .soh128 _ _ => .outbound
  | .stx1024 _ _ => .outbound
  | .eot => .outbound
  | .eos => .outbound

/-- An abstract operand: a byte string, a natural, or a single bit (30_encoding.md R87). -/
inductive Operand where
  | bytes (bs : Bytes)
  | nat (n : Nat)
  | bit (b : Bool)
  deriving DecidableEq, Repr

/-- The encoded form the decoder reads: a byte code on one of the block's interfaces, with the operands handed over
beside it (30_encoding.md R70, R85, R86, R87), the RESET signal (R85), or a byte string of the TX stream (R74). -/
inductive Raw where
  | rxByte (b : Byte)
  | hostCmd (op : Byte) (args : List Operand)
  | chanEvt (ev : Byte) (args : List Operand)
  | resetSignal
  | txBytes (bs : Bytes)
  deriving DecidableEq, Repr

/-- The interface an encoded form stands on. -/
def Raw.format : Raw → Format
  | .rxByte _ => .rxByte
  | .hostCmd _ _ => .hostCmd
  | .chanEvt _ _ => .chanEvt
  | .resetSignal => .signal
  | .txBytes _ => .outbound

/-- The fault causes of 60_exceptions.md R201; codes 6 to 15 are reserved and never written (log 19). -/
inductive FaultCause where
  | none | nameInvalid | nameTooLong | headerOverflow | fileTooLarge | ioError
  deriving DecidableEq, Repr

end Sys2Proof
end

