-- ==== Sys2Proof/Machine/Operands.lean ====
section
/-! DEFINITION. Operand forms: reading the byte spaces (20_memory.md R50), the byte order of the CRC field (R54),
decimal spelling (41_framer.md R122), packet counting (R125). Pure functions of their operands. -/

namespace Sys2Proof.Machine

/-- `MemRead_S(a, n)`: `n` bytes of space `S` from index `a` (00_scope.md R11). Nothing past the end is read: callers
stay inside the space (20_memory.md R52). -/
def memRead (space : Bytes) (a n : Nat) : Bytes := (space.drop a).take n

/-- `crc[15:8]`, sent first (20_memory.md R54). -/
def crcHi (c : CrcWord) : Byte := c.extractLsb' 8 8

/-- `crc[7:0]` (20_memory.md R54). -/
def crcLo (c : CrcWord) : Byte := c.extractLsb' 0 8

/-- The two bytes of the checksum field, big-endian (20_memory.md R54). -/
def crcField (c : CrcWord) : Bytes := [crcHi c, crcLo c]

/-- The ASCII digit of `d` (20_memory.md R55: 0x30 to 0x39). -/
def decDigit (d : Nat) : Byte := BitVec.ofNat 8 (0x30 + d % 10)

/-- The digits of `n`, most significant first, for any fuel of at least `n`. -/
def decDigits : Nat → Nat → Bytes
  | 0, n => [decDigit n]
  | fuel + 1, n => if n < 10 then [decDigit n] else decDigits fuel (n / 10) ++ [decDigit n]

/-- `DEC(n)` (41_framer.md R122). -/
def dec (n : Nat) : Bytes := decDigits n n

/-- The natural a string of ASCII digits spells, most significant first: the reading of `DEC` (41_framer.md R133). -/
def decValue (ds : Bytes) : Nat := ds.foldl (fun acc d => acc * 10 + (d.toNat - 0x30)) 0

/-- `N = ceil(TOTAL / 1024)` (41_framer.md R125). -/
def chunkCount (size : Nat) : Nat := (size + (Config.longPayload - 1)) / Config.longPayload

end Sys2Proof.Machine
end

