-- ==== Sys2Proof/Machine/Crc.lean ====
section
/-! DEFINITION. The CRC-16 checksum engine (40_crc.md), a pure function. -/

namespace Sys2Proof.Machine

/-- One of the eight shifts of `crc_step` (40_crc.md R100). -/
def crcBit (c : CrcWord) : CrcWord :=
  if c.msb then (c <<< 1) ^^^ Config.crcPoly else c <<< 1

/-- `crc_step(c, b)`, bit by bit, most significant bit first (40_crc.md R100). -/
def crcStep (c : CrcWord) (b : Byte) : CrcWord := crcBit^[8] (c ^^^ (b.zeroExtend 16 <<< 8))

/-- The byte-wise feedback form of `crc_step` (40_crc.md R101). -/
def crcStepFeedback (c : CrcWord) (b : Byte) : CrcWord :=
  let x := crcHi c ^^^ b
  let x := x ^^^ (x >>> 4)
  (c <<< 8) ^^^ (x.zeroExtend 16 <<< 12) ^^^ (x.zeroExtend 16 <<< 5) ^^^ x.zeroExtend 16

/-- `forced x k` is `k x` (Laws/Crc.lean, forced_eq): it makes the kernel compute `x` before it goes on, so that a
long string's CRC can be evaluated. -/
def forced {α : Type} (x : CrcWord) (k : CrcWord → α) : α :=
  match x.toNat with
  | 0 => k 0#16
  | n + 1 => k (BitVec.ofNat 16 (n + 1))

/-- The loop of CRC: a left fold of `crc_step` (40_crc.md R102, R105). -/
def crcFold : CrcWord → Bytes → CrcWord
  | c, [] => c
  | c, b :: bs => forced (crcStep c b) fun c' => crcFold c' bs

/-- `CRC(buf, start, len, seed)` for operands in range (40_crc.md R102). -/
def crc (buf : Bytes) (start len : Nat) (seed : CrcWord) : CrcWord := crcFold seed (memRead buf start len)

/-- `crc16(p) = CRC(p, 0, len(p), 0)` (40_crc.md R102, R107). -/
def crc16 (p : Bytes) : CrcWord := crc p 0 p.length 0#16

end Sys2Proof.Machine
end

