-- ==== Sys2Proof/Machine/Framer.lean ====
section
/-! DEFINITION. The packet framer (41_framer.md): pure functions of their operands (R131). -/

namespace Sys2Proof.Machine

/-- `FRAME(marker, seq, payload)` (41_framer.md R120; 30_encoding.md R73). -/
def frame (marker seq : Byte) (payload : Bytes) : Bytes :=
  [marker, seq, 0xFF#8 - seq] ++ payload ++ crcField (crc16 payload)

/-- The checks on a header's name and size, in their order; the first that fails gives the fault (41_framer.md R121;
60_exceptions.md R209). -/
def headerFault (name : Bytes) (size : Nat) : Option FaultCause :=
  if Config.maxFileBytes < size then some .fileTooLarge
  else if name.isEmpty || name.contains 0#8 then some .nameInvalid
  else if Config.maxName < name.length then some .nameTooLong
  else if Config.shortPayload < name.length + 1 + (dec size).length + 1 then some .headerOverflow
  else none

/-- `HDR_PAYLOAD(name, size)` for an accepted name and size (41_framer.md R123; 30_encoding.md R79). -/
def hdrPayload (name : Bytes) (size : Nat) : Bytes :=
  let fields := name ++ [0#8] ++ dec size ++ [0x20#8]
  fields ++ rep 0#8 (Config.shortPayload - fields.length)

/-- BUILD_HEADER as a function (41_framer.md R124). -/
def buildHeader (name : Bytes) (size : Nat) : Except FaultCause Bytes :=
  match headerFault name size with
  | some c => .error c
  | none => .ok (frame Config.markerShort 0#8 (hdrPayload name size))

/-- Chunk `k` of the file, 1 ≤ k ≤ N (41_framer.md R125). -/
def chunk (buf : Bytes) (k : Nat) : Bytes :=
  memRead buf ((k - 1) * Config.longPayload) (min Config.longPayload (buf.length - (k - 1) * Config.longPayload))

/-- `piece` padded to `n` bytes (41_framer.md R126). -/
def padded (piece : Bytes) (n : Nat) : Bytes := piece ++ rep Config.padByte (n - piece.length)

/-- Data packet `k`, 1 ≤ k ≤ N: sequence `k mod 256`, and the short layout for a last chunk of at most 128 bytes
(41_framer.md R126, R127, R128). -/
def dataFrame (buf : Bytes) (k : Nat) : Bytes :=
  let piece := chunk buf k
  if k = chunkCount buf.length ∧ piece.length ≤ Config.shortPayload then
    frame Config.markerShort (BitVec.ofNat 8 k) (padded piece Config.shortPayload)
  else
    frame Config.markerLong (BitVec.ofNat 8 k) (padded piece Config.longPayload)

/-- The data packets of a file, in order (41_framer.md R128). -/
def dataFrames (buf : Bytes) : List Bytes := (List.range (chunkCount buf.length)).map fun j => dataFrame buf (j + 1)

/-- BUILD_DATA as a function (41_framer.md R128). -/
def buildData (buf : Bytes) : Except FaultCause (List Bytes) :=
  if Config.maxFileBytes < buf.length then .error .fileTooLarge else .ok (dataFrames buf)

/-- EOS, the constant End-of-Session frame (41_framer.md R129; 30_encoding.md R78). -/
def eosFrame : Bytes := [0x01#8, 0x00#8, 0xFF#8] ++ rep 0#8 130

/-- EOT, the constant one-byte string (41_framer.md R130). -/
def eotString : Bytes := [Config.eotByte]

/-- A byte string is a frame as 30_encoding.md R73 lays it out, of the length its marker selects (R74), with the
complement and the CRC of its sequence and payload (41_framer.md R134). -/
def isFrame (f : Bytes) : Bool :=
  match f with
  | marker :: seq :: cseq :: rest =>
    let p := if marker = Config.markerShort then Config.shortPayload else Config.longPayload
    (marker == Config.markerShort || marker == Config.markerLong) && rest.length == p + 2
      && cseq == 0xFF#8 - seq && rest.drop p == crcField (crc16 (rest.take p))
  | _ => false

end Sys2Proof.Machine
end

