-- ==== Sys2Proof/WellFormed.lean ====
section
/-! DEFINITION. Which instruction terms the encodings admit: the field ranges of 30_encoding.md and the operand
contract of 60_exceptions.md R203. A name the framer rejects is a recorded fault (41_framer.md R121), not ill-formed. -/

namespace Sys2Proof

/-- The 252 values of RX_OTHER: none of the four control bytes (30_encoding.md R71, R72). -/
def rxOtherOk (b : Byte) : Bool :=
  b != Config.byteC && b != Config.byteAck && b != Config.byteNak && b != Config.byteCa

/-- The operand contract of CRC (40_crc.md R106). -/
def crcOperandsOk (buf : Bytes) (start len seed : Nat) : Bool :=
  decide (start + len ≤ buf.length) && decide (seed ≤ 0xFFFF)

/-- A chunk holds at least one byte (30_encoding.md R86). -/
def chunkOk (bytes : Bytes) : Bool := !bytes.isEmpty

/-- A short frame's payload is 128 bytes, and the frame is not the one that is called EOS (30_encoding.md R73, R78). -/
def shortFrameOk (seq : Byte) (payload : Bytes) : Bool :=
  payload.length == Config.shortPayload && !(seq == 0#8 && payload == rep 0#8 Config.shortPayload)

/-- A long frame's payload is 1024 bytes (30_encoding.md R73). -/
def longFrameOk (payload : Bytes) : Bool := payload.length == Config.longPayload

/-- Well-formedness of an instruction. -/
def Instr.wf : Instr → Bool
  | .rxC => true
  | .rxAck => true
  | .rxNak => true
  | .rxCa => true
  | .rxOther b => rxOtherOk b
  | .crc buf first len seed => crcOperandsOk buf first len seed
  | .buildHeader _ _ => true
  | .buildData _ => true
  | .start _ _ => true
  | .abort => true
  | .reset => true
  | .rxChunk bytes => chunkOk bytes
  | .writeDoneOk => true
  | .writeDoneFail => true
  | .soh128 seq payload => shortFrameOk seq payload
  | .stx1024 _ payload => longFrameOk payload
  | .eot => true
  | .eos => true

end Sys2Proof
end

