-- ==== Sys2Proof/Decode.lean ====
section
/-! DEFINITION. The decoder, total on every encoded form and rejecting by name, and the encoder
(30_encoding.md; opcode_table.json). -/

namespace Sys2Proof

open Sys2Proof.Machine

/-- Why an encoded form has no instruction. -/
inductive DecodeError where
  /-- A reserved host command code (30_encoding.md R85). -/
  | reservedCommand (op : Byte)
  /-- A channel event code outside 30_encoding.md R86 (log 9). -/
  | unknownEvent (ev : Byte)
  /-- Operands not of the number and kind the code carries (30_encoding.md R85, R86; log 8). -/
  | badOperands (code : Byte)
  /-- An outbound string whose first byte is none of 0x01, 0x02, 0x04 (30_encoding.md R74). -/
  | badMarker
  /-- An outbound string not of the length its first byte selects (30_encoding.md R74). -/
  | badLength
  /-- Byte 2 is not the complement of byte 1 (30_encoding.md R73). -/
  | badComplement
  /-- The last two bytes are not the CRC of the payload (30_encoding.md R73). -/
  | badChecksum
  deriving DecidableEq, Repr

/-- RXBYTE, total on all 256 values; the first matching row wins (30_encoding.md R71, R72). -/
def decodeRx (b : Byte) : Instr :=
  if b = Config.byteC then .rxC
  else if b = Config.byteAck then .rxAck
  else if b = Config.byteNak then .rxNak
  else if b = Config.byteCa then .rxCa
  else .rxOther b

/-- HOSTCMD (30_encoding.md R85). An absent CRC seed is 0 (40_crc.md R104). -/
def decodeHost (op : Byte) (args : List Operand) : Except DecodeError Instr :=
  if op = 0x01#8 then
    match args with
    | [.bytes buf, .nat start, .nat len] => .ok (.crc buf start len 0)
    | [.bytes buf, .nat start, .nat len, .nat seed] => .ok (.crc buf start len seed)
    | _ => .error (.badOperands op)
  else if op = 0x02#8 then
    match args with
    | [.bytes name, .nat size] => .ok (.buildHeader name size)
    | _ => .error (.badOperands op)
  else if op = 0x03#8 then
    match args with
    | [.bytes buf] => .ok (.buildData buf)
    | _ => .error (.badOperands op)
  else if op = 0x10#8 then
    match args with
    | [.bytes name, .bytes file] => .ok (.start name file)
    | _ => .error (.badOperands op)
  else if op = 0x11#8 then
    match args with
    | [] => .ok .abort
    | _ => .error (.badOperands op)
  else .error (.reservedCommand op)

/-- CHANEVT (30_encoding.md R86). -/
def decodeChan (ev : Byte) (args : List Operand) : Except DecodeError Instr :=
  if ev = 0x20#8 then
    match args with
    | [.bytes bs] => .ok (.rxChunk bs)
    | _ => .error (.badOperands ev)
  else if ev = 0x21#8 then
    match args with
    | [.bit true] => .ok .writeDoneOk
    | [.bit false] => .ok .writeDoneFail
    | _ => .error (.badOperands ev)
  else .error (.unknownEvent ev)

/-- The payload length the marker selects (30_encoding.md R73, R74). -/
def payloadLength (marker : Byte) : Option Nat :=
  if marker = Config.markerShort then some Config.shortPayload
  else if marker = Config.markerLong then some Config.longPayload
  else none

/-- A byte string of the TX stream: EOT, EOS, or a frame whose complement and CRC agree with its sequence and payload
(30_encoding.md R73, R74, R77, R78). -/
def decodeTx (bs : Bytes) : Except DecodeError Instr :=
  if bs = eotString then .ok .eot
  else if bs = eosFrame then .ok .eos
  else
    match bs with
    | marker :: seq :: cseq :: rest =>
      match payloadLength marker with
      | none => .error .badMarker
      | some p =>
        if rest.length ≠ p + 2 then .error .badLength
        else if cseq ≠ 0xFF#8 - seq then .error .badComplement
        else if rest.drop p ≠ crcField (crc16 (rest.take p)) then .error .badChecksum
        else if marker = Config.markerShort then .ok (.soh128 seq (rest.take p))
        else .ok (.stx1024 seq (rest.take p))
    | _ => .error .badLength

/-- The decoder. -/
def decode : Raw → Except DecodeError Instr
  | .rxByte b => .ok (decodeRx b)
  | .hostCmd op args => decodeHost op args
  | .chanEvt ev args => decodeChan ev args
  | .resetSignal => .ok .reset
  | .txBytes bs => decodeTx bs

/-- The encoder, from the tables of 30_encoding.md R71, R73, R77, R78, R85 and R86. The seed is always written out. -/
def encode : Instr → Raw
  | .rxC => .rxByte 0x43#8
  | .rxAck => .rxByte 0x06#8
  | .rxNak => .rxByte 0x15#8
  | .rxCa => .rxByte 0x18#8
  | .rxOther b => .rxByte b
  | .crc buf start len seed => .hostCmd 0x01#8 [.bytes buf, .nat start, .nat len, .nat seed]
  | .buildHeader name size => .hostCmd 0x02#8 [.bytes name, .nat size]
  | .buildData buf => .hostCmd 0x03#8 [.bytes buf]
  | .start name file => .hostCmd 0x10#8 [.bytes name, .bytes file]
  | .abort => .hostCmd 0x11#8 []
  | .reset => .resetSignal
  | .rxChunk bytes => .chanEvt 0x20#8 [.bytes bytes]
  | .writeDoneOk => .chanEvt 0x21#8 [.bit true]
  | .writeDoneFail => .chanEvt 0x21#8 [.bit false]
  | .soh128 seq payload => .txBytes (frame 0x01#8 seq payload)
  | .stx1024 seq payload => .txBytes (frame 0x02#8 seq payload)
  | .eot => .txBytes [0x04#8]
  | .eos => .txBytes eosFrame

/-- The `n` bytes of the table number `w`, the first in its least significant bits. -/
def tableBytes : Nat → Nat → Bytes
  | 0, _ => []
  | n + 1, w => BitVec.ofNat 8 w :: tableBytes n (w / 256)

/-- A byte string that decodes as an outbound one. -/
def isOutbound (bs : Bytes) : Bool :=
  match decodeTx bs with
  | .ok _ => true
  | .error _ => false

/-- The encoded form of a table word with no bits for its operands: operands of zeros, so the empty byte string, the
natural 0, and for RX_CHUNK, whose operand has at least one byte, one byte 0x00 (log 6). -/
def rawOfCode (code : Byte) (ok : Bool) : Raw :=
  if code = 0x01#8 then .hostCmd code [.bytes [], .nat 0, .nat 0, .nat 0]
  else if code = 0x02#8 then .hostCmd code [.bytes [], .nat 0]
  else if code = 0x03#8 then .hostCmd code [.bytes []]
  else if code = 0x04#8 then .txBytes [code]
  else if code = 0x10#8 then .hostCmd code [.bytes [], .bytes []]
  else if code = 0x11#8 then .hostCmd code []
  else if code = 0x20#8 then .chanEvt code [.bytes [0#8]]
  else if code = 0x21#8 then .chanEvt code [.bit ok]
  else .rxByte code

/-- The encoded form of a table word. The table's five formats share one byte code space, and the word does not say
which interface it stands on: a whole outbound string is read as such, a code of a host command or channel event as
that, 0x04 as EOT, and any other byte as an inbound control byte. The only operand bit is `ok`, bit 8 (log 6). -/
def rawOfTableWord (nbits w : Nat) : Option Raw :=
  if nbits = 0 then none
  else if 8 < nbits ∧ isOutbound (tableBytes ((nbits + 7) / 8) w) then
    some (.txBytes (tableBytes ((nbits + 7) / 8) w))
  else if w < 256 then some (rawOfCode (BitVec.ofNat 8 w) false)
  else if w = 0x121 then some (rawOfCode 0x21#8 true)
  else none

/-- The instruction the decoder reads from a table word. -/
def decodeTableWord (nbits w : Nat) : Option Instr :=
  match rawOfTableWord nbits w with
  | some raw =>
    match decode raw with
    | .ok i => some i
    | .error _ => none
  | none => none

end Sys2Proof
end

