-- ==== Sys2Proof/Machine/State.lean ====
section
/-! DEFINITION. The block's state (10_state.md), what the other agents still hand over and what they have received,
the reasons a step can stop, and the state after reset (10_state.md R44). Plain data throughout. -/

namespace Sys2Proof.Machine

/-- CLOSE_REASON (10_state.md R34); codes 4 to 15 are reserved and never written (log 19). -/
inductive CloseReason where
  | none | finalAck | cancel | aborted
  deriving DecidableEq, Repr

/-- The result record `{fileName, totalBytes, writtenBytes}` (10_state.md R36). -/
structure Result where
  fileName : Bytes
  totalBytes : Word
  writtenBytes : Word
  deriving DecidableEq, Repr

/-- The registers the host reads (10_state.md R36, R37; log 15). -/
inductive Reg where
  | status | cursor | count | total | written | resultName | resultTotal | resultWritten
  deriving DecidableEq, Repr

/-- What a register read returns. -/
inductive RegValue where
  | word (w : Word)
  | bytes (bs : Bytes)
  deriving DecidableEq, Repr

/-- What the host is told: the two output events of 60_exceptions.md R206, the outcome of a standalone command (R202),
the value of a register it reads (log 15). -/
inductive HostOut where
  | done (r : Result)
  | error (c : FaultCause)
  | crcValue (c : CrcWord)
  | header (f : Bytes)
  | data (fs : List Bytes)
  | commandFault (c : FaultCause)
  | regValue (r : Reg) (v : RegValue)
  deriving DecidableEq, Repr

/-- What another agent does next, in its encoded form (00_scope.md R4; 30_encoding.md R85, R86; 60_exceptions.md R208;
log 1). -/
inductive Input where
  /-- A host command code with its operands. -/
  | host (op : Byte) (args : List Operand)
  /-- A channel event code with its operands. -/
  | chan (ev : Byte) (args : List Operand)
  /-- The RESET signal. -/
  | resetSignal
  /-- The host reads a register. -/
  | read (r : Reg)
  /-- The other agents let the block take its turn: one byte step, if it is enabled. -/
  | turn
  deriving DecidableEq, Repr

/-- The state. NAME to RXQ are the architectural state of 10_state.md R20; the last four fields are the model's own
(log 1, 5, 16). -/
structure State where
  /-- NAME (R22). -/
  name : Bytes
  /-- PKT (R23). -/
  pkt : List Bytes
  /-- COUNT (R24). -/
  count : Word
  /-- CURSOR (R25). -/
  cursor : Word
  /-- TOTAL (R26). -/
  total : Word
  /-- WRITTEN (R27). -/
  written : Word
  /-- SESSION_ACTIVE (R28). -/
  sessionActive : Bool
  /-- SENDING (R29). -/
  sending : Bool
  /-- FINISHED (R30). -/
  finished : Bool
  /-- SUBSCRIBED (R31). -/
  subscribed : Bool
  /-- PREV_VALID (R32). -/
  prevValid : Bool
  /-- PREV_BYTE (R32). -/
  prevByte : Byte
  /-- TX_BUSY (R33). -/
  txBusy : Bool
  /-- CLOSE_REASON (R34). -/
  closeReason : CloseReason
  /-- FAULT_CAUSE (R35). -/
  faultCause : FaultCause
  /-- RESULT_VALID (R36). -/
  resultValid : Bool
  /-- RESULT_NAME (R36): no value while RESULT_VALID = 0 (log 10). -/
  resultName : Bytes
  /-- RESULT_TOTAL (R36): as RESULT_NAME. -/
  resultTotal : Word
  /-- RESULT_WRITTEN (R36): as RESULT_NAME. -/
  resultWritten : Word
  /-- RXQ, oldest byte first (R43). -/
  rxq : Bytes
  /-- What the other agents still hand over, oldest first, and so the order in which agents act (log 1). -/
  inbox : List Input
  /-- The TX stream: the channel writes issued so far, oldest first (20_memory.md R50, R53; log 16). -/
  tx : List Bytes
  /-- What the host has been told so far, oldest first (log 16). -/
  hostOut : List HostOut
  /-- An outbound table row to be run as a step by itself (log 5). -/
  sendReq : Option Bytes
  deriving DecidableEq, Repr

/-- Why the machine stops with a fault. -/
inductive Fault where
  /-- The host reads a RESULT register while RESULT_VALID = 0 (10_state.md R36). Raised by a register read only. Safe:
  the spec says that the read faults. -/
  | resultNotValid
  /-- CURSOR < COUNT, but PKT holds no frame CURSOR. Raised by SENDPACKET, in no reachable state (10_state.md R23 makes
  COUNT the length of PKT; log 13). Safe. -/
  | packetMissing
  deriving DecidableEq, Repr

/-- Why the model gives an event no meaning (60_exceptions.md R203). All are safe: the run ends (log 17). -/
inductive Refusal where
  /-- An instruction this model has no meaning for; raised by `exec` only, for no instruction. Safe. -/
  | notModelled (mnemonic : String)
  /-- An encoded form with no instruction: among them the reserved command codes (30_encoding.md R85). Raised by `step`.
  Safe. -/
  | notDecoded (e : DecodeError)
  /-- CRC with `start + len > len(buf)` or a seed above 0xFFFF (40_crc.md R106). Raised by CRC. Safe. -/
  | crcOperands
  /-- START while SUBSCRIBED = 1 or TX_BUSY = 1 (42_sequencer.md R153). Raised by START. Safe. -/
  | startNotAllowed
  /-- WRITE_DONE with TX_BUSY = 0 (42_sequencer.md R168, R169). Raised by WRITE_DONE. Safe. -/
  | noWriteOutstanding
  /-- An empty RX_CHUNK (42_sequencer.md R163). Raised by RX_CHUNK. Safe. -/
  | emptyChunk
  /-- A frame whose payload is not of the length its marker needs (41_framer.md R120). Raised by SOH128 and STX1024. Safe. -/
  | payloadLength
  deriving DecidableEq, Repr

/-- The outcome of a step of this machine. -/
abbrev Out := Host.Outcome State Fault Refusal

/-- The state after reset (10_state.md R44). RESULT_NAME, RESULT_TOTAL and RESULT_WRITTEN have no specified value and
stand at empty and 0 (log 10); the model's own fields are empty (log 2, 5, 16). -/
def State.reset : State where
  name := []
  pkt := []
  count := 0#32
  cursor := 0#32
  total := 0#32
  written := 0#32
  sessionActive := false
  sending := false
  finished := false
  subscribed := false
  prevValid := false
  prevByte := 0x00#8
  txBusy := false
  closeReason := .none
  faultCause := .none
  resultValid := false
  resultName := []
  resultTotal := 0#32
  resultWritten := 0#32
  rxq := []
  inbox := []
  tx := []
  hostOut := []
  sendReq := none

end Sys2Proof.Machine
end

