-- ==== Sys2Proof/Machine/Flags.lean ====
section
/-! DEFINITION. What is computed from the flags and registers without changing them: when the byte step is enabled,
the STATUS view, the phase, final states and their outcome. -/

namespace Sys2Proof.Machine

/-- The byte step is enabled (42_sequencer.md R154; it holds while TX_BUSY = 1, R170). -/
def State.byteReady (s : State) : Bool := s.subscribed && !s.finished && !s.txBusy && !s.rxq.isEmpty

/-- The debounce test of RX_C: the immediately preceding inbound byte was a C (42_sequencer.md R155; 10_state.md R32). -/
def State.prevIsC (s : State) : Bool := s.prevValid && s.prevByte == Config.byteC

/-- The code of CLOSE_REASON (10_state.md R34). -/
def CloseReason.code : CloseReason → BitVec 4
  | .none => 0#4
  | .finalAck => 1#4
  | .cancel => 2#4
  | .aborted => 3#4

/-- The code of FAULT_CAUSE (60_exceptions.md R201). -/
def faultCode : FaultCause → BitVec 4
  | .none => 0#4
  | .nameInvalid => 1#4
  | .nameTooLong => 2#4
  | .headerOverflow => 3#4
  | .fileTooLarge => 4#4
  | .ioError => 5#4

/-- A field of STATUS with its lowest bit at `lo`. -/
def statusField {n : Nat} (lo : Nat) (v : BitVec n) : Word := v.zeroExtend 32 <<< lo

/-- A flag as a field of STATUS. -/
def statusFlag (lo : Nat) (b : Bool) : Word := statusField lo (BitVec.ofBool b)

/-- STATUS, the read-only 32-bit view; bits 7 and 31:24 are reserved and read 0 (10_state.md R37). -/
def State.status (s : State) : Word :=
  statusFlag 0 s.subscribed ||| statusFlag 1 s.sessionActive ||| statusFlag 2 s.sending ||| statusFlag 3 s.finished
    ||| statusFlag 4 s.txBusy ||| statusFlag 5 s.prevValid ||| statusFlag 6 s.resultValid
    ||| statusField 8 s.closeReason.code ||| statusField 12 (faultCode s.faultCause) ||| statusField 16 s.prevByte

/-- The phases of 10_state.md R38. -/
inductive Phase where
  | idle | rejected | awaitingStart | sendingHeader
  | sendingData (i : Nat)
  | awaitingFinalAck | closed | aborted | failed
  deriving DecidableEq, Repr

/-- The phase, a derived view; conditions are tested top to bottom, and `none` is no row of the table (10_state.md
R38). -/
def State.phase (s : State) : Option Phase :=
  if !s.subscribed && !s.finished && s.faultCause == .none then some .idle
  else if !s.subscribed && !s.finished then some .rejected
  else if s.subscribed && !s.sending && s.cursor == 0#32 then some .awaitingStart
  else if s.subscribed && s.sending && s.cursor == 0#32 then some .sendingHeader
  else if s.subscribed && s.sending && decide (s.cursor < s.count) then some (.sendingData s.cursor.toNat)
  else if s.subscribed && s.cursor == s.count then some .awaitingFinalAck
  else if s.finished && (s.closeReason == .finalAck || s.closeReason == .cancel) then some .closed
  else if s.finished && s.closeReason == .aborted then some .aborted
  else if s.finished && s.faultCause == .ioError then some .failed
  else none

/-- A final state (42_sequencer.md R173): finished with no write outstanding, or a START that faulted. -/
def State.final (s : State) : Bool := (s.finished && !s.txBusy) || s.phase == some .rejected

/-- The outcome of a run (42_sequencer.md R173). -/
inductive RunOutcome where
  | done (r : Result)
  | aborted
  | fault (c : FaultCause)
  deriving DecidableEq, Repr

/-- The outcome of a final state (42_sequencer.md R173). -/
def State.runOutcome (s : State) : Option RunOutcome :=
  if !s.final then none
  else if s.resultValid then some (.done ⟨s.resultName, s.resultTotal, s.resultWritten⟩)
  else if s.closeReason == .aborted then some .aborted
  else if s.faultCause != .none then some (.fault s.faultCause)
  else none

/-- The transfer succeeded: it ended with a DONE whose writtenBytes = totalBytes (42_sequencer.md R172). -/
def State.succeeded (s : State) : Bool :=
  match s.runOutcome with
  | some (.done r) => r.writtenBytes == r.totalBytes
  | _ => false

end Sys2Proof.Machine
end

