-- ==== Sys2Proof/Machine/Ops.lean ====
section
/-! DEFINITION. The operations the meanings share: TX_WRITE, SENDPACKET, CLOSE, EMIT, recording a fault, the end of a
transfer, the PREV update, reading a register. -/

namespace Sys2Proof.Machine

/-- Go on from a next state; a fault or a refusal stays. -/
def andThen (o : Out) (f : State → State) : Out :=
  match o with
  | .next s => .next (f s)
  | .fault r => .fault r
  | .refused r => .refused r

/-- EMIT: the host receives `o` (00_scope.md R11). -/
def emit (o : HostOut) (s : State) : State := { s with hostOut := s.hostOut ++ [o] }

/-- TX_WRITE(bs): the whole string goes onto the TX stream at issue, and TX_BUSY is set (42_sequencer.md R165;
20_memory.md R58). -/
def txWrite (bs : Bytes) (s : State) : State := { s with tx := s.tx ++ [bs], txBusy := true }

/-- SENDPACKET (42_sequencer.md R164). -/
def sendPacket (s : State) : Out :=
  if s.cursor < s.count then
    match s.pkt[s.cursor.toNat]? with
    | some f => .next (txWrite f s)
    | none => .fault .packetMissing
  else if s.sending then .next (txWrite eotString s)
  else .next s

/-- What ends a subscription: FINISHED <- 1, SUBSCRIBED <- 0, RXQ <- empty (42_sequencer.md R162, R166, R167, R169). -/
def endTransfer (s : State) : State := { s with finished := true, subscribed := false, rxq := [] }

/-- The record CLOSE delivers (42_sequencer.md R166). -/
def State.result (s : State) : Result := ⟨s.name, s.total, s.written⟩

/-- CLOSE(reason): never delivers twice (42_sequencer.md R166). -/
def close (reason : CloseReason) (s : State) : State :=
  if s.finished then s
  else
    emit (.done s.result)
      { endTransfer s with
        closeReason := reason
        resultName := s.name
        resultTotal := s.total
        resultWritten := s.written
        resultValid := true }

/-- The block takes a fault, in START and in WRITE_DONE: the cause is recorded and ERROR is emitted, in the same step.
Nothing is saved, no mode changes and no control is transferred (60_exceptions.md R202, R210), and there is no return
from it but START or RESET (R211). -/
def takeFault (c : FaultCause) (s : State) : State := emit (.error c) { s with faultCause := c }

/-- The PREV update after a handled byte (42_sequencer.md R161). -/
def notePrev (b : Byte) (s : State) : State := { s with prevValid := true, prevByte := b }

/-- The head of RXQ is taken off (42_sequencer.md R154; 20_memory.md R53). -/
def popRx (s : State) : State := { s with rxq := s.rxq.tail }

/-- A register as the host reads it (10_state.md R37); a RESULT register has no value while RESULT_VALID = 0 (R36). -/
def readReg (r : Reg) (s : State) : Except Fault RegValue :=
  match r with
  | .status => .ok (.word s.status)
  | .cursor => .ok (.word s.cursor)
  | .count => .ok (.word s.count)
  | .total => .ok (.word s.total)
  | .written => .ok (.word s.written)
  | .resultName => if s.resultValid then .ok (.bytes s.resultName) else .error .resultNotValid
  | .resultTotal => if s.resultValid then .ok (.word s.resultTotal) else .error .resultNotValid
  | .resultWritten => if s.resultValid then .ok (.word s.resultWritten) else .error .resultNotValid

/-- The host reads a register (log 15). -/
def hostRead (r : Reg) (s : State) : Out :=
  match readReg r s with
  | .ok v => .next (emit (.regValue r v) s)
  | .error f => .fault f

end Sys2Proof.Machine
end

