-- ==== Sys2Proof/Machine/ChannelEvents.lean ====
section
/-! DEFINITION. The channel events RX_CHUNK and WRITE_DONE (42_sequencer.md R163, R168, R169). -/

namespace Sys2Proof.Machine

/-- RX_CHUNK (42_sequencer.md R163); a chunk that arrives while SUBSCRIBED = 0 is dropped (R162). -/
def execRxChunk (bytes : Bytes) (s : State) : Out :=
  if bytes.isEmpty then .refused .emptyChunk
  else if s.subscribed then .next { s with rxq := s.rxq ++ bytes }
  else .next s

/-- WRITE_DONE(ok = 1) (42_sequencer.md R168). -/
def execWriteDoneOk (s : State) : Out :=
  if !s.txBusy then .refused .noWriteOutstanding else .next { s with txBusy := false }

/-- WRITE_DONE(ok = 0) (42_sequencer.md R169; 60_exceptions.md R205). -/
def execWriteDoneFail (s : State) : Out :=
  if !s.txBusy then .refused .noWriteOutstanding
  else if s.finished then .next { s with txBusy := false }
  else .next (takeFault .ioError (endTransfer { s with txBusy := false }))

end Sys2Proof.Machine
end

