-- ==== Sys2Proof/Machine/ControlBytes.lean ====
section
/-! DEFINITION. The inbound control bytes (42_sequencer.md R155 to R161): each meaning is the reaction and then the
PREV update of the byte step; the byte step takes the byte off RXQ before it (Machine/Fetch.lean). -/

namespace Sys2Proof.Machine

/-- RX_C (42_sequencer.md R155). -/
def execRxC (s : State) : Out :=
  if s.count ≤ s.cursor then .next (notePrev Config.byteC (txWrite eosFrame s))
  else if !s.prevIsC then andThen (sendPacket s) fun t => notePrev Config.byteC { t with sending := true }
  else .next (notePrev Config.byteC s)

/-- The reaction to RX_ACK (42_sequencer.md R156, R157). The product is on natural numbers (00_scope.md R10). -/
def ackReaction (s : State) : Out :=
  if !s.sending then .next (close .finalAck s)
  else if s.cursor = 0#32 then .next { s with cursor := 1#32 }
  else if s.cursor < s.count then
    sendPacket
      { s with
        written := BitVec.ofNat 32 (min (s.cursor.toNat * Config.ackStride) s.total.toNat)
        cursor := s.cursor + 1#32 }
  else sendPacket { s with sending := false, sessionActive := false }

/-- RX_ACK (42_sequencer.md R156). -/
def execRxAck (s : State) : Out := andThen (ackReaction s) (notePrev Config.byteAck)

/-- RX_NAK (42_sequencer.md R158). -/
def execRxNak (s : State) : Out := andThen (sendPacket s) (notePrev Config.byteNak)

/-- RX_CA (42_sequencer.md R159). -/
def execRxCa (s : State) : Out := .next (notePrev Config.byteCa (close .cancel s))

/-- RX_OTHER (42_sequencer.md R160). -/
def execRxOther (b : Byte) (s : State) : Out := .next (notePrev b s)

end Sys2Proof.Machine
end

