-- ==== Sys2Proof/Machine/HostCommands.lean ====
section
/-! DEFINITION. The host commands CRC, BUILD_HEADER, BUILD_DATA, START and ABORT (30_encoding.md R85) and the RESET
signal (70_reset_and_hazards.md R230). -/

namespace Sys2Proof.Machine

/-- CRC (40_crc.md R102, R106). No register is written. -/
def execCrc (buf : Bytes) (start len seed : Nat) (s : State) : Out :=
  if buf.length < start + len ∨ 0xFFFF < seed then .refused .crcOperands
  else .next (emit (.crcValue (crc buf start len (BitVec.ofNat 16 seed))) s)

/-- BUILD_HEADER as a command: the frame or the fault is the command's outcome, and no register is written
(41_framer.md R124; 60_exceptions.md R202). -/
def execBuildHeader (name : Bytes) (size : Nat) (s : State) : Out :=
  match buildHeader name size with
  | .ok f => .next (emit (.header f) s)
  | .error c => .next (emit (.commandFault c) s)

/-- BUILD_DATA as a command: the frames or the fault are the command's outcome, and no register is written
(41_framer.md R128; 60_exceptions.md R202). -/
def execBuildData (buf : Bytes) (s : State) : Out :=
  match buildData buf with
  | .ok fs => .next (emit (.data fs) s)
  | .error c => .next (emit (.commandFault c) s)

/-- START's frames, the header first; the first fault of either build (42_sequencer.md R150). -/
def buildPackets (name file : Bytes) : Except FaultCause (List Bytes) :=
  match buildHeader name file.length with
  | .error c => .error c
  | .ok hdr =>
    match buildData file with
    | .error c => .error c
    | .ok data => .ok (hdr :: data)

/-- START's fault branch (42_sequencer.md R150; 60_exceptions.md R204). -/
def startFault (c : FaultCause) (s : State) : State :=
  takeFault c { s with closeReason := .none, resultValid := false, finished := false }

/-- START's success branch (42_sequencer.md R150, R152). -/
def beginTransfer (name file : Bytes) (frames : List Bytes) (s : State) : State :=
  { s with
    name := name
    pkt := frames
    count := BitVec.ofNat 32 frames.length
    total := BitVec.ofNat 32 file.length
    written := 0#32
    cursor := 0#32
    sessionActive := true
    sending := false
    finished := false
    prevValid := false
    closeReason := .none
    faultCause := .none
    resultValid := false
    rxq := []
    subscribed := true }

/-- START (42_sequencer.md R150, R153). -/
def execStart (name file : Bytes) (s : State) : Out :=
  if s.subscribed || s.txBusy then .refused .startNotAllowed
  else
    match buildPackets name file with
    | .error c => .next (startFault c s)
    | .ok frames => .next (beginTransfer name file frames s)

/-- ABORT (42_sequencer.md R167). -/
def execAbort (s : State) : Out :=
  if !s.subscribed then .next s else .next { endTransfer s with closeReason := .aborted }

/-- RESET (70_reset_and_hazards.md R230): every piece of the block's state to its reset value, with no event. What has
left the block, and what the other agents have yet to do, is not the block's (log 14). -/
def execReset (s : State) : Out := .next { State.reset with inbox := s.inbox, tx := s.tx, hostOut := s.hostOut }

end Sys2Proof.Machine
end

