-- ==== Sys2Proof/Machine/Outbound.lean ====
section
/-! DEFINITION. The outbound rows of the table, run as an instruction: the channel write, TX_WRITE, of the row's bytes
(42_sequencer.md R165; log 5). In the block itself these writes happen inside a control byte's reaction. -/

namespace Sys2Proof.Machine

/-- SOH128: the write of FRAME(0x01, seq, payload), which needs a payload of 128 bytes (41_framer.md R120). -/
def execSoh128 (seq : Byte) (payload : Bytes) (s : State) : Out :=
  if payload.length = Config.shortPayload then .next (txWrite (frame Config.markerShort seq payload) s)
  else .refused .payloadLength

/-- STX1024: the write of FRAME(0x02, seq, payload), which needs a payload of 1024 bytes (41_framer.md R120). -/
def execStx1024 (seq : Byte) (payload : Bytes) (s : State) : Out :=
  if payload.length = Config.longPayload then .next (txWrite (frame Config.markerLong seq payload) s)
  else .refused .payloadLength

/-- EOT: the write of the byte 0x04 (41_framer.md R130). -/
def execEot (s : State) : Out := .next (txWrite eotString s)

/-- EOS: the write of the constant frame (41_framer.md R129). -/
def execEos (s : State) : Out := .next (txWrite eosFrame s)

end Sys2Proof.Machine
end

