-- ==== Sys2Proof/Machine/Dispatch.lean ====
section
/-! DEFINITION. One arm per constructor of Instr, each one call of its meaning. -/

namespace Sys2Proof.Machine

def exec (i : Instr) (s : State) : Host.Outcome State Fault Refusal :=
  match i with
  | .rxC => Sys2Proof.Machine.execRxC s
  | .rxAck => Sys2Proof.Machine.execRxAck s
  | .rxNak => Sys2Proof.Machine.execRxNak s
  | .rxCa => Sys2Proof.Machine.execRxCa s
  | .rxOther b => Sys2Proof.Machine.execRxOther b s
  | .crc buf start len seed => Sys2Proof.Machine.execCrc buf start len seed s
  | .buildHeader name size => Sys2Proof.Machine.execBuildHeader name size s
  | .buildData buf => Sys2Proof.Machine.execBuildData buf s
  | .start name file => Sys2Proof.Machine.execStart name file s
  | .abort => Sys2Proof.Machine.execAbort s
  | .reset => Sys2Proof.Machine.execReset s
  | .rxChunk bytes => Sys2Proof.Machine.execRxChunk bytes s
  | .writeDoneOk => Sys2Proof.Machine.execWriteDoneOk s
  | .writeDoneFail => Sys2Proof.Machine.execWriteDoneFail s
  | .soh128 seq payload => Sys2Proof.Machine.execSoh128 seq payload s
  | .stx1024 seq payload => Sys2Proof.Machine.execStx1024 seq payload s
  | .eot => Sys2Proof.Machine.execEot s
  | .eos => Sys2Proof.Machine.execEos s

end Sys2Proof.Machine
end

