-- ==== Sys2Proof/Machine/Fetch.lean ====
section
/-! DEFINITION. Which event a step handles, and where a step takes its next instruction from (60_exceptions.md R208;
log 1 to 5). -/

namespace Sys2Proof.Machine

/-- What a step is about to do, with the state it does it in. -/
inductive Fetched where
  /-- Handle the encoded form `raw`. -/
  | run (raw : Raw) (s : State)
  /-- A register read by the host. -/
  | read (r : Reg) (s : State)
  /-- Nothing: the block waits for another agent (log 3). -/
  | wait (s : State)
  deriving DecidableEq, Repr

/-- The byte step, if it is enabled: the head of RXQ is taken off and handled (42_sequencer.md R154). While it is not
enabled it holds, and RXQ keeps its bytes (R170). -/
def byteTurn (s : State) : Fetched :=
  if s.byteReady then
    match s.rxq with
    | b :: _ => .run (.rxByte b) (popRx s)
    | [] => .wait s
  else .wait s

/-- The next entry of the inbox, taken off; with an empty inbox the block takes its turn (log 1, 4). -/
def nextInput (s : State) : Fetched :=
  match s.inbox with
  | [] => byteTurn s
  | .turn :: rest => byteTurn { s with inbox := rest }
  | .host op args :: rest => .run (.hostCmd op args) { s with inbox := rest }
  | .chan ev args :: rest => .run (.chanEvt ev args) { s with inbox := rest }
  | .resetSignal :: rest => .run .resetSignal { s with inbox := rest }
  | .read r :: rest => .read r { s with inbox := rest }

/-- What the next step does. An outbound row placed to be run alone goes first, once no write is outstanding (log 5). -/
def fetch (s : State) : Fetched :=
  match s.sendReq with
  | some bs => if s.txBusy then nextInput s else .run (.txBytes bs) { s with sendReq := none }
  | none => nextInput s

/-- The instruction the next step runs, if it runs one. -/
def State.nextInstr (s : State) : Option Instr :=
  match fetch s with
  | .run raw _ =>
    match decode raw with
    | .ok i => some i
    | .error _ => none
  | .read _ _ => none
  | .wait _ => none

/-- `raw` stored where the next step takes its event from: a control byte at the head of RXQ with the byte step enabled
and the turn given to the block; a command, an event or RESET at the head of the inbox; an outbound string as the one
to be run alone (log 7). -/
def placeRaw (raw : Raw) (s : State) : State :=
  match raw with
  | .rxByte b =>
    { s with
      rxq := b :: s.rxq
      subscribed := true
      finished := false
      txBusy := false
      sendReq := none
      inbox := .turn :: s.inbox }
  | .hostCmd op args => { s with sendReq := none, inbox := .host op args :: s.inbox }
  | .chanEvt ev args => { s with sendReq := none, inbox := .chan ev args :: s.inbox }
  | .resetSignal => { s with sendReq := none, inbox := .resetSignal :: s.inbox }
  | .txBytes bs => { s with sendReq := some bs, txBusy := false }

end Sys2Proof.Machine
end

