-- ==== Sys2Proof/Machine/Step.lean ====
section
/-! DEFINITION. One step of the block (00_scope.md R4): fetch an event, decode it, run it. -/

namespace Sys2Proof.Machine

/-- One atomic step. A form with no instruction is refused (60_exceptions.md R203); a wait leaves the block as it is
(log 3). -/
def step (s : State) : Host.Outcome State Fault Refusal :=
  match fetch s with
  | .run raw t =>
    match decode raw with
    | .ok i => exec i t
    | .error e => .refused (.notDecoded e)
  | .read r t => hostRead r t
  | .wait t => .next t

/-- `s` with the instruction of a table word stored where the next step takes it from (log 6, 7). -/
def State.withFetchWord (s : State) (nbits w : Nat) : State :=
  match rawOfTableWord nbits w with
  | some raw => placeRaw raw s
  | none => s

end Sys2Proof.Machine
end

