-- ==== Sys2Proof/Machine/Stimulus.lean ====
section
/-! DEFINITION. The stimulus scripts of 30_encoding.md R88, as data: each line names a command or an event, and its
meaning is the inbox entry it stands for. The text layout of a line is not parsed (log 20). -/

namespace Sys2Proof.Machine

/-- A byte of an rxchunk line: a value, or one of the four names (30_encoding.md R88). -/
inductive RxName where
  | byte (b : Byte)
  | c | ack | nak | ca
  deriving DecidableEq, Repr

/-- The byte a name stands for (30_encoding.md R88). -/
def RxName.value : RxName → Byte
  | .byte b => b
  | .c => 0x43#8
  | .ack => 0x06#8
  | .nak => 0x15#8
  | .ca => 0x18#8

/-- A byte string of a line: a hex list or a quoted string, given as its bytes, or `fill(b, n)` (30_encoding.md R88). -/
inductive ByteSource where
  | bytes (bs : Bytes)
  | fill (b : Byte) (n : Nat)
  deriving DecidableEq, Repr

/-- The bytes a source stands for. -/
def ByteSource.value : ByteSource → Bytes
  | .bytes bs => bs
  | .fill b n => rep b n

/-- A line of a script (30_encoding.md R88). -/
inductive Line where
  | reset
  | start (name : Bytes) (file : ByteSource)
  | abort
  | crc (buf : ByteSource) (start len : Nat) (seed : Option Nat)
  | bhdr (name : Bytes) (size : Nat)
  | bdata (buf : ByteSource)
  | rxchunk (bs : List RxName)
  | rx (b : RxName)
  | wdone (ok : Bool)
  deriving DecidableEq, Repr

/-- The inbox entry of a line; `rx b` is the pseudo-instruction for `rxchunk [b]` (30_encoding.md R88). -/
def Line.input : Line → Input
  | .reset => .resetSignal
  | .start name file => .host 0x10#8 [.bytes name, .bytes file.value]
  | .abort => .host 0x11#8 []
  | .crc buf first len none => .host 0x01#8 [.bytes buf.value, .nat first, .nat len]
  | .crc buf first len (some seed) => .host 0x01#8 [.bytes buf.value, .nat first, .nat len, .nat seed]
  | .bhdr name size => .host 0x02#8 [.bytes name, .nat size]
  | .bdata buf => .host 0x03#8 [.bytes buf.value]
  | .rxchunk bs => .chan 0x20#8 [.bytes (bs.map RxName.value)]
  | .rx b => .chan 0x20#8 [.bytes [b.value]]
  | .wdone ok => .chan 0x21#8 [.bit ok]

/-- How many inbound bytes a line delivers. -/
def Line.delivers : Line → Nat
  | .rxchunk bs => bs.length
  | .rx _ => 1
  | _ => 0

/-- A script as inbox entries, with byte steps run as soon as they are enabled, before the next line: after each line
the block gets as many turns as bytes were delivered so far, `queued` of them before this script (95_test_vectors.md
Part 3). A turn in which the byte step is not enabled does nothing (log 3). -/
def scriptInputs : Nat → List Line → List Input
  | _, [] => []
  | queued, l :: ls =>
    l.input :: List.replicate (queued + l.delivers) .turn ++ scriptInputs (queued + l.delivers) ls

end Sys2Proof.Machine
end

