-- ==== Sys2Proof/Safety.lean ====
section
/-! DEFINITION. What claims are stated in: the invariants of 10_state.md R42 with those the other rules add, what an
environment may do, and the script of a receiver that takes every packet. -/

namespace Sys2Proof.Machine

/-- The invariants of the block between two steps. The first six are 10_state.md R42, items 1 to 6; the others say what
other rules say of the same registers, each with its rule. -/
structure State.Inv (s : State) : Prop where
  /-- R42 item 1. -/
  cursor_le_count : s.cursor ≤ s.count
  /-- R42 item 2. -/
  written_le_total : s.written ≤ s.total
  /-- R42 item 3; COUNT is 0 only before a START has succeeded. -/
  count_eq : s.count ≠ 0#32 → s.count.toNat = 1 + chunkCount s.total.toNat
  /-- R42 item 4. -/
  idle_at_end : s.sending = false → s.cursor ≠ 0#32 → s.cursor = s.count
  /-- R42 item 5. -/
  subscribed_open : s.subscribed = true → s.finished = false
  /-- R42 item 6. -/
  result_closed : s.resultValid = true →
    s.finished = true ∧ (s.closeReason = .finalAck ∨ s.closeReason = .cancel)
  /-- PKT holds COUNT frames (10_state.md R23, R24). -/
  pkt_length : s.pkt.length = s.count.toNat
  /-- Every frame of PKT is laid out as 30_encoding.md R73 says (41_framer.md R134). -/
  pkt_frames : ∀ f ∈ s.pkt, isFrame f = true
  /-- NAME is at most 123 bytes (10_state.md R22). -/
  name_length : s.name.length ≤ Config.maxName
  /-- Only a successful START subscribes (10_state.md R31). -/
  subscribed_started : s.subscribed = true → s.count ≠ 0#32
  /-- WRITTEN counts the bytes of the data packets acknowledged so far (42_sequencer.md R157). -/
  written_eq : s.written.toNat = min ((s.cursor.toNat - 1) * Config.ackStride) s.total.toNat
  /-- CLOSE leaves a valid RESULT with its reason (42_sequencer.md R166). -/
  closed_result : s.closeReason = .finalAck ∨ s.closeReason = .cancel → s.resultValid = true
  /-- The only ways to finish are CLOSE, ABORT and IO_ERROR (10_state.md R30). -/
  finished_why : s.finished = true → s.closeReason ≠ .none ∨ s.faultCause = .ioError
  /-- CLOSE_REASON is written only with FINISHED (10_state.md R34). -/
  open_no_reason : s.finished = false → s.closeReason = .none
  /-- IO_ERROR finishes (60_exceptions.md R205). -/
  io_finished : s.faultCause = .ioError → s.finished = true
  /-- A recorded fault and a reason to have ended exclude each other (60_exceptions.md R206; 10_state.md R34, R35). -/
  fault_no_reason : s.faultCause ≠ .none → s.closeReason = .none
  /-- A running transfer has no fault recorded (42_sequencer.md R150). -/
  subscribed_no_fault : s.subscribed = true → s.faultCause = .none
  /-- Only a subscribed block sends, and START waits for the write (42_sequencer.md R153, R154): an outstanding write of a
  transfer that is not finished is the running one's. -/
  busy_subscribed : s.txBusy = true → s.finished = false → s.subscribed = true
  /-- RXQ is empty while the block is not subscribed (42_sequencer.md R162). -/
  unsubscribed_empty : s.subscribed = false → s.rxq = []
  /-- A valid RESULT is the record CLOSE delivered (42_sequencer.md R166; 10_state.md R30). -/
  result_eq : s.resultValid = true →
    s.resultName = s.name ∧ s.resultTotal = s.total ∧ s.resultWritten = s.written
  /-- No step orders an outbound row to be run alone (log 5). -/
  no_send_request : s.sendReq = none

/-- `n` steps of the machine, stopping at the first fault or refusal. -/
def runSteps : Nat → State → Out
  | 0, s => .next s
  | n + 1, s =>
    match step s with
    | .next t => runSteps n t
    | .fault r => .fault r
    | .refused r => .refused r

/-- A state some run from reset reaches, whatever the other agents hand over. -/
def Reachable (s : State) : Prop := ∃ n inputs, runSteps n { State.reset with inbox := inputs } = .next s

/-- How many DONE events the host has been told of. -/
def doneCount (s : State) : Nat := s.hostOut.countP fun o => match o with
  | .done _ => true
  | _ => false

/-- A message as one number, its first byte the most significant. -/
def messageNat (p : Bytes) : Nat := p.foldl (fun acc b => acc * 256 + b.toNat) 0

/-- The product over GF(2) of a polynomial, its coefficients from the highest down, with the polynomial whose
coefficients are the bits of `g`: no carries, addition is XOR. -/
def gfMul (q : List Bool) (g : Nat) : Nat := q.foldl (fun acc b => (2 * acc) ^^^ (if b then g else 0)) 0

/-- The generator x¹⁶+x¹²+x⁵+1 as its bits (00_scope.md R2). -/
def crcGenerator : Nat := 2 ^ 16 + 2 ^ 12 + 2 ^ 5 + 1

/-- One control byte delivered, and the block's turn to handle it. -/
def deliver (b : Byte) : List Input := [.chan 0x20#8 [.bytes [b]], .turn]

/-- The outstanding write reported done. -/
def writeDone : Input := .chan 0x21#8 [.bit true]

/-- What host and channel do in a transfer of `n` data packets to a receiver that asks for the header and for the first
data packet with C and acknowledges everything once (95_test_vectors.md E5, E6). -/
def smoothTransfer (name file : Bytes) (n : Nat) : List Input :=
  [.host 0x10#8 [.bytes name, .bytes file]]
    ++ deliver Config.byteC ++ [writeDone]
    ++ deliver Config.byteAck
    ++ deliver Config.byteC ++ [writeDone]
    ++ (List.replicate n (deliver Config.byteAck ++ [writeDone])).flatten
    ++ deliver Config.byteAck
    ++ deliver Config.byteAck

end Sys2Proof.Machine
end

