-- ==== Sys2Proof/Certificates/Slice0/Obligations.lean ====
section
/-! DEFINITION. The statements about the model, from the numbered rules of spec/. Rules the spec marks as derived are
stated with basis 'derived' in OBLIGATIONS.json. -/

open Sys2Proof Sys2Proof.Machine

/-! ## Encoding -/

/-- 30_encoding.md R71, R72: the byte decoder, total on all 256 values, exact on the byte, and what RX_OTHER leaves
alone. -/
def Obligations.RxByteDecoderIsTotal : Prop :=
  ∀ b : Byte,
    decode (.rxByte b) = .ok (
      if b = 0x43#8 then .rxC else if b = 0x06#8 then .rxAck else if b = 0x15#8 then .rxNak
      else if b = 0x18#8 then .rxCa else .rxOther b)
    ∧ ∀ s : State, exec (.rxOther b) s = .next { s with prevValid := true, prevByte := b }

/-- 30_encoding.md R85: every host command code with its operands, and the RESET signal; every other code is refused
when the host issues it. -/
def Obligations.HostCommandCodes : Prop :=
  (∀ buf start len seed, decode (.hostCmd 0x01#8 [.bytes buf, .nat start, .nat len, .nat seed]) = .ok (.crc buf start len seed))
  ∧ (∀ buf start len, decode (.hostCmd 0x01#8 [.bytes buf, .nat start, .nat len]) = .ok (.crc buf start len 0))
  ∧ (∀ name size, decode (.hostCmd 0x02#8 [.bytes name, .nat size]) = .ok (.buildHeader name size))
  ∧ (∀ buf, decode (.hostCmd 0x03#8 [.bytes buf]) = .ok (.buildData buf))
  ∧ (∀ name file, decode (.hostCmd 0x10#8 [.bytes name, .bytes file]) = .ok (.start name file))
  ∧ decode (.hostCmd 0x11#8 []) = .ok .abort
  ∧ decode .resetSignal = .ok .reset
  ∧ ∀ (op : Byte) (args : List Operand) (s : State) (rest : List Input),
      op ∉ [0x01#8, 0x02#8, 0x03#8, 0x10#8, 0x11#8] → s.sendReq = none → s.inbox = .host op args :: rest →
      step s = .refused (.notDecoded (.reservedCommand op))

/-- 30_encoding.md R86: the two channel event codes, and that a chunk has at least one byte. -/
def Obligations.ChannelEventCodes : Prop :=
  (∀ bs, decode (.chanEvt 0x20#8 [.bytes bs]) = .ok (.rxChunk bs))
  ∧ decode (.chanEvt 0x21#8 [.bit true]) = .ok .writeDoneOk
  ∧ decode (.chanEvt 0x21#8 [.bit false]) = .ok .writeDoneFail
  ∧ ∀ s : State, exec (.rxChunk []) s = .refused .emptyChunk

/-- Words written out from the spec's encodings (30_encoding.md R71, R77, R78, R85) decode to the instructions they stand
for. On which interface a table word stands is the model's choice (log 6): that 0x04 reads as EOT and 0x11 as ABORT, and
not as inbound bytes, rests on it. -/
def Obligations.SpecWordsDecode : Prop :=
  decodeTableWord 8 0x43 = some .rxC ∧ decodeTableWord 8 0x06 = some .rxAck ∧ decodeTableWord 8 0x15 = some .rxNak
  ∧ decodeTableWord 8 0x18 = some .rxCa ∧ decodeTableWord 8 0x63 = some (.rxOther 0x63#8)
  ∧ decodeTableWord 8 0x11 = some .abort ∧ decodeTableWord 8 0x04 = some .eot
  ∧ decode (.txBytes ([0x01#8, 0x00#8, 0xFF#8] ++ rep 0x00#8 130)) = .ok .eos

/-- Decoding the encoding of a well-formed instruction gives it back, for every instruction and every operand the
encoding admits. -/
def Obligations.DecodeEncodeRoundTrip : Prop :=
  ∀ i : Instr, i.wf = true → decode (encode i) = .ok i

/-- Each encoded form has one spelling: what decodes to an instruction is that instruction's encoding, but for a CRC
command that leaves its seed out (40_crc.md R104). -/
def Obligations.EncodeDecodeIsCanonical : Prop :=
  ∀ (raw : Raw) (i : Instr), decode raw = .ok i →
    encode i = raw ∨ ∃ buf start len, raw = .hostCmd 0x01#8 [.bytes buf, .nat start, .nat len] ∧ i = .crc buf start len 0

/-! ## CRC-16 engine -/

/-- 40_crc.md R101: the byte-wise feedback form gives the same value as the bit-by-bit form, for every pair. -/
def Obligations.CrcFeedbackFormAgrees : Prop :=
  ∀ (c : CrcWord) (b : Byte), crcStepFeedback c b = crcStep c b

/-- 40_crc.md R102, R104, R106: host command 0x01, with seed 0 when it is absent; in range, CRC tells the host the left
fold of `crc_step` over the range from the seed and changes nothing else; out of range, or with a seed above 0xFFFF, it is
refused. -/
def Obligations.CrcCommand : Prop :=
  ∀ (buf : Bytes) (start len seed : Nat) (s : State),
    decode (.hostCmd 0x01#8 [.bytes buf, .nat start, .nat len, .nat seed]) = .ok (.crc buf start len seed)
    ∧ decode (.hostCmd 0x01#8 [.bytes buf, .nat start, .nat len]) = .ok (.crc buf start len 0)
    ∧ (start + len ≤ buf.length → seed ≤ 0xFFFF →
      exec (.crc buf start len seed) s = .next { s with
        hostOut := s.hostOut ++ [.crcValue (((buf.drop start).take len).foldl crcStep (BitVec.ofNat 16 seed))] })
    ∧ ((buf.length < start + len ∨ 0xFFFF < seed) → exec (.crc buf start len seed) s = .refused .crcOperands)

/-- 40_crc.md R105 (which the spec derives from R102): the CRC of two adjacent ranges, the second seeded with the first,
is the CRC of the whole. -/
def Obligations.CrcIsIncremental : Prop :=
  ∀ (buf : Bytes) (a b c : Nat) (seed : CrcWord), a ≤ b → b ≤ c → c ≤ buf.length →
    crc buf a (c - a) seed = crc buf b (c - b) (crc buf a (b - a) seed)

/-- 40_crc.md R108 (which the spec derives from R100): with seed 0 any string of zero bytes has CRC 0. -/
def Obligations.CrcOfZerosIsZero : Prop :=
  ∀ n : Nat, crc16 (rep 0x00#8 n) = 0#16

/-- 40_crc.md R100 read as polynomial division over GF(2): x¹⁶ times the message, bits most significant first, is a
multiple of x¹⁶+x¹²+x⁵+1 plus the engine's value, which has degree below 16 and so is the remainder. That bits are
neither reflected nor inverted the spec takes from general knowledge (93 G1). -/
def Obligations.CrcIsPolynomialRemainder : Prop :=
  ∀ p : Bytes, ∃ q : List Bool, messageNat p * 2 ^ 16 = gfMul q crcGenerator ^^^ (crc16 p).toNat

/-! ## Framer -/

/-- 41_framer.md R120: the layout of a frame, for both payload lengths. -/
def Obligations.FrameLayout : Prop :=
  ∀ (marker seq : Byte) (payload : Bytes),
    (marker = 0x01#8 ∧ payload.length = 128) ∨ (marker = 0x02#8 ∧ payload.length = 1024) →
    (frame marker seq payload).length = payload.length + 5
    ∧ (frame marker seq payload)[0]? = some marker
    ∧ (frame marker seq payload)[1]? = some seq
    ∧ (frame marker seq payload)[2]? = some (0xFF#8 - seq)
    ∧ ((frame marker seq payload).drop 3).take payload.length = payload
    ∧ (frame marker seq payload)[payload.length + 3]? = some ((crc16 payload).extractLsb' 8 8)
    ∧ (frame marker seq payload)[payload.length + 4]? = some ((crc16 payload).extractLsb' 0 8)

/-- 41_framer.md R121: the four checks on a header's name and size, in their order. -/
def Obligations.HeaderChecksInOrder : Prop :=
  ∀ (name : Bytes) (size : Nat),
    (4294967295 < size → headerFault name size = some .fileTooLarge)
    ∧ (size ≤ 4294967295 → (name = [] ∨ 0x00#8 ∈ name) → headerFault name size = some .nameInvalid)
    ∧ (size ≤ 4294967295 → name ≠ [] → 0x00#8 ∉ name → 123 < name.length → headerFault name size = some .nameTooLong)
    ∧ (size ≤ 4294967295 → name ≠ [] → 0x00#8 ∉ name → name.length ≤ 123 → 128 < name.length + 1 + (dec size).length + 1 →
        headerFault name size = some .headerOverflow)
    ∧ (size ≤ 4294967295 → name ≠ [] → 0x00#8 ∉ name → name.length ≤ 123 → name.length + 1 + (dec size).length + 1 ≤ 128 →
        headerFault name size = none)

/-- 41_framer.md R124: BUILD_HEADER tells the host the header frame, or the fault of the failing check, and writes no
register. -/
def Obligations.BuildHeaderCommand : Prop :=
  ∀ (name : Bytes) (size : Nat) (s : State),
    decode (.hostCmd 0x02#8 [.bytes name, .nat size]) = .ok (.buildHeader name size)
    ∧ (headerFault name size = none →
      exec (.buildHeader name size) s = .next { s with
        hostOut := s.hostOut ++ [.header (frame 0x01#8 0x00#8 (hdrPayload name size))] })
    ∧ ∀ c, headerFault name size = some c →
      exec (.buildHeader name size) s = .next { s with hostOut := s.hostOut ++ [.commandFault c] }

/-- 41_framer.md R123, 30_encoding.md R79: the header payload of an accepted name and size. -/
def Obligations.HeaderPayloadLayout : Prop :=
  ∀ (name : Bytes) (size : Nat), headerFault name size = none →
    1 ≤ name.length ∧ name.length ≤ 123 ∧ name.length + (dec size).length + 2 ≤ 128
    ∧ hdrPayload name size
        = name ++ [0x00#8] ++ dec size ++ [0x20#8] ++ rep 0x00#8 (128 - (name.length + (dec size).length + 2))
    ∧ (hdrPayload name size).length = 128
    ∧ ∀ d ∈ dec size, 0x30#8 ≤ d ∧ d ≤ 0x39#8

/-- 41_framer.md R122: `DEC(n)` spells n, with digits only, no leading zero, and one to ten digits for a 32-bit n. -/
def Obligations.DecimalSpelling : Prop :=
  ∀ n : Nat,
    decValue (dec n) = n
    ∧ (∀ d ∈ dec n, 0x30#8 ≤ d ∧ d ≤ 0x39#8)
    ∧ ((dec n).head? = some 0x30#8 → n = 0)
    ∧ 1 ≤ (dec n).length ∧ (n ≤ 4294967295 → (dec n).length ≤ 10)
    ∧ dec 0 = [0x30#8]

/-- 41_framer.md R133 (which the spec derives from R121 and R123): the header payload parses back to the name and the
size. -/
def Obligations.HeaderParsesBack : Prop :=
  ∀ (name : Bytes) (size : Nat), headerFault name size = none →
    (hdrPayload name size).takeWhile (· != 0x00#8) = name
    ∧ decValue ((((hdrPayload name size).dropWhile (· != 0x00#8)).drop 1).takeWhile (· != 0x20#8)) = size

/-- 41_framer.md R125: the file's chunks and their lengths. -/
def Obligations.ChunkLengths : Prop :=
  ∀ buf : Bytes,
    (buf = [] → chunkCount buf.length = 0)
    ∧ (buf ≠ [] → chunkCount buf.length * 1024 < buf.length + 1024 ∧ buf.length ≤ chunkCount buf.length * 1024)
    ∧ (∀ k, 1 ≤ k → k < chunkCount buf.length → (chunk buf k).length = 1024)
    ∧ (∀ k, 1 ≤ k → k = chunkCount buf.length →
        (chunk buf k).length = buf.length - (k - 1) * 1024 ∧ 1 ≤ (chunk buf k).length ∧ (chunk buf k).length ≤ 1024)
    ∧ ∀ k, 1 ≤ k → k ≤ chunkCount buf.length →
        chunk buf k = (buf.take (min (k * 1024) buf.length)).drop ((k - 1) * 1024)

/-- 41_framer.md R126, R127, R128: BUILD_DATA tells the host one frame for each chunk, laid out and padded by length,
with sequence k mod 256, and writes no register; a larger file is the fault FILE_TOO_LARGE. -/
def Obligations.BuildDataCommand : Prop :=
  ∀ (buf : Bytes) (s : State),
    decode (.hostCmd 0x03#8 [.bytes buf]) = .ok (.buildData buf)
    ∧ (4294967295 < buf.length →
      exec (.buildData buf) s = .next { s with hostOut := s.hostOut ++ [.commandFault .fileTooLarge] })
    ∧ (buf.length ≤ 4294967295 → ∃ fs : List Bytes,
        exec (.buildData buf) s = .next { s with hostOut := s.hostOut ++ [.data fs] }
        ∧ fs.length = (buf.length + 1023) / 1024
        ∧ ∀ k, 1 ≤ k → k ≤ fs.length → ∀ piece, piece = (buf.drop ((k - 1) * 1024)).take 1024 →
            fs[k - 1]? = some (
              if k = fs.length ∧ piece.length ≤ 128 then
                frame 0x01#8 (BitVec.ofNat 8 (k % 256)) (piece ++ rep 0x1A#8 (128 - piece.length))
              else frame 0x02#8 (BitVec.ofNat 8 (k % 256)) (piece ++ rep 0x1A#8 (1024 - piece.length))))

/-- 41_framer.md R132 (which the spec derives from R125 and R126): the data packets with their padding removed give the
file back. -/
def Obligations.DataPacketsReassemble : Prop :=
  ∀ buf : Bytes,
    ((List.range (chunkCount buf.length)).map fun j =>
      (((dataFrames buf).getD j []).drop 3).take (min 1024 (buf.length - j * 1024))).flatten = buf

/-- 41_framer.md R134 (which the spec derives from R120): every frame the framer builds, and EOS, has a sequence and a
complement that add up to 0xFF, and the CRC of its payload. -/
def Obligations.BuiltFramesAreConsistent : Prop :=
  ∀ (f : Bytes),
    ((∃ name size, buildHeader name size = .ok f) ∨ (∃ buf, f ∈ dataFrames buf) ∨ f = eosFrame) →
    isFrame f = true ∧ (f.getD 1 0#8).toNat + (f.getD 2 0#8).toNat = 0xFF

/-- 30_encoding.md R78: the End-of-Session frame, byte for byte, and that its CRC field agrees with the CRC rule. -/
def Obligations.EosFrameIsConstant : Prop :=
  eosFrame = [0x01#8, 0x00#8, 0xFF#8] ++ rep 0x00#8 128 ++ [0x00#8, 0x00#8] ∧ eosFrame.length = 133
  ∧ crc16 (rep 0x00#8 128) = 0x0000#16

/-! ## Host commands of the sequencer -/

/-- 42_sequencer.md R150, R153: START in all its cases. -/
def Obligations.StartCommand : Prop :=
  ∀ (name file : Bytes) (s : State),
    decode (.hostCmd 0x10#8 [.bytes name, .bytes file]) = .ok (.start name file)
    ∧ ((s.subscribed = true ∨ s.txBusy = true) → exec (.start name file) s = .refused .startNotAllowed)
    ∧ (∀ c, s.subscribed = false → s.txBusy = false → headerFault name file.length = some c →
        exec (.start name file) s = .next { s with
          faultCause := c
          closeReason := .none
          resultValid := false
          finished := false
          hostOut := s.hostOut ++ [.error c] })
    ∧ (s.subscribed = false → s.txBusy = false → headerFault name file.length = none →
        exec (.start name file) s = .next { s with
          name := name
          pkt := frame 0x01#8 0x00#8 (hdrPayload name file.length) :: dataFrames file
          count := BitVec.ofNat 32 (1 + (dataFrames file).length)
          total := BitVec.ofNat 32 file.length
          written := 0#32
          cursor := 0#32
          sessionActive := true
          sending := false
          finished := false
          prevValid := false
          closeReason := .none
          faultCause := .none
          resultValid := false
          rxq := []
          subscribed := true })

/-- 42_sequencer.md R152 (which the spec derives from R150): the registers, and the phase, just after a START that
succeeded. -/
def Obligations.AfterSuccessfulStart : Prop :=
  ∀ (name file : Bytes) (s t : State), headerFault name file.length = none → exec (.start name file) s = .next t →
    t.cursor = 0#32 ∧ t.written = 0#32 ∧ t.count.toNat = 1 + (file.length + 1023) / 1024 ∧ t.total.toNat = file.length
    ∧ t.sessionActive = true ∧ t.sending = false ∧ t.finished = false ∧ t.subscribed = true ∧ t.txBusy = false
    ∧ t.prevValid = false ∧ t.closeReason = .none ∧ t.faultCause = .none ∧ t.resultValid = false ∧ t.rxq = []
    ∧ t.tx = s.tx ∧ t.phase = some .awaitingStart

/-- 42_sequencer.md R167: ABORT, and that a second one does nothing. -/
def Obligations.AbortCommand : Prop :=
  ∀ s : State,
    decode (.hostCmd 0x11#8 []) = .ok .abort
    ∧ (s.subscribed = false → exec .abort s = .next s)
    ∧ (s.subscribed = true → exec .abort s = .next { s with
        finished := true
        subscribed := false
        rxq := []
        closeReason := .aborted })

/-- 70_reset_and_hazards.md R230: RESET puts every register to the value of 10_state.md R44 and tells the host
nothing. -/
def Obligations.ResetSignal : Prop :=
  ∀ s : State, ∃ t : State, exec .reset s = .next t
    ∧ t.name = [] ∧ t.pkt = [] ∧ t.count = 0#32 ∧ t.cursor = 0#32 ∧ t.total = 0#32 ∧ t.written = 0#32
    ∧ t.sessionActive = false ∧ t.sending = false ∧ t.finished = false ∧ t.subscribed = false ∧ t.txBusy = false
    ∧ t.prevValid = false ∧ t.prevByte = 0x00#8 ∧ t.closeReason = .none ∧ t.faultCause = .none
    ∧ t.resultValid = false ∧ t.rxq = [] ∧ t.status = 0x00000000#32
    ∧ t.hostOut = s.hostOut

/-- 10_state.md R44: the state after reset. -/
def Obligations.StateAfterReset : Prop :=
  State.reset.name = [] ∧ State.reset.pkt = [] ∧ State.reset.count = 0#32
  ∧ State.reset.cursor = 0#32 ∧ State.reset.total = 0#32 ∧ State.reset.written = 0#32
  ∧ State.reset.sessionActive = false ∧ State.reset.sending = false ∧ State.reset.finished = false
  ∧ State.reset.subscribed = false ∧ State.reset.txBusy = false
  ∧ State.reset.prevValid = false ∧ State.reset.prevByte = 0x00#8
  ∧ State.reset.closeReason = .none ∧ State.reset.faultCause = .none ∧ State.reset.rxq = []
  ∧ State.reset.resultValid = false
  ∧ readReg .resultName State.reset = .error .resultNotValid
  ∧ readReg .resultTotal State.reset = .error .resultNotValid
  ∧ readReg .resultWritten State.reset = .error .resultNotValid
  ∧ State.reset.status = 0x00000000#32

/-! ## Control bytes -/

/-- 42_sequencer.md R155: RX_C. -/
def Obligations.RxCReaction : Prop :=
  ∀ s : State, s.pkt.length = s.count.toNat →
    decode (.rxByte 0x43#8) = .ok .rxC
    ∧ (s.count ≤ s.cursor →
      exec .rxC s = .next { s with tx := s.tx ++ [eosFrame], txBusy := true, prevValid := true, prevByte := 0x43#8 })
    ∧ (s.cursor < s.count → ¬(s.prevValid = true ∧ s.prevByte = 0x43#8) → ∃ f, s.pkt[s.cursor.toNat]? = some f ∧
        exec .rxC s = .next { s with
          tx := s.tx ++ [f], txBusy := true, sending := true, prevValid := true, prevByte := 0x43#8 })
    ∧ (s.cursor < s.count → s.prevValid = true → s.prevByte = 0x43#8 → exec .rxC s = .next s)

/-- 42_sequencer.md R156, with the CLOSE of R166: RX_ACK. -/
def Obligations.RxAckReaction : Prop :=
  ∀ s : State, s.pkt.length = s.count.toNat →
    decode (.rxByte 0x06#8) = .ok .rxAck
    ∧ (s.sending = false → s.finished = false →
      exec .rxAck s = .next { s with
        finished := true
        subscribed := false
        rxq := []
        closeReason := .finalAck
        resultName := s.name
        resultTotal := s.total
        resultWritten := s.written
        resultValid := true
        hostOut := s.hostOut ++ [.done ⟨s.name, s.total, s.written⟩]
        prevValid := true
        prevByte := 0x06#8 })
    ∧ (s.sending = false → s.finished = true → exec .rxAck s = .next { s with prevValid := true, prevByte := 0x06#8 })
    ∧ (s.sending = true → s.cursor = 0#32 →
        exec .rxAck s = .next { s with cursor := 1#32, prevValid := true, prevByte := 0x06#8 })
    ∧ (s.sending = true → s.cursor ≠ 0#32 → s.cursor < s.count → ∃ w,
        (s.cursor.toNat + 1 < s.count.toNat → s.pkt[s.cursor.toNat + 1]? = some w)
        ∧ (s.cursor.toNat + 1 = s.count.toNat → w = [0x04#8])
        ∧ exec .rxAck s = .next { s with
            written := BitVec.ofNat 32 (min (s.cursor.toNat * 1024) s.total.toNat)
            cursor := BitVec.ofNat 32 (s.cursor.toNat + 1)
            tx := s.tx ++ [w]
            txBusy := true
            prevValid := true
            prevByte := 0x06#8 })
    ∧ (s.sending = true → s.cursor ≠ 0#32 → s.count ≤ s.cursor →
        exec .rxAck s = .next { s with
          sending := false, sessionActive := false, prevValid := true, prevByte := 0x06#8 })

/-- 42_sequencer.md R158: RX_NAK. -/
def Obligations.RxNakReaction : Prop :=
  ∀ s : State, s.pkt.length = s.count.toNat →
    decode (.rxByte 0x15#8) = .ok .rxNak
    ∧ (s.cursor < s.count → ∃ f, s.pkt[s.cursor.toNat]? = some f ∧
      exec .rxNak s = .next { s with tx := s.tx ++ [f], txBusy := true, prevValid := true, prevByte := 0x15#8 })
    ∧ (s.count ≤ s.cursor → s.sending = true →
        exec .rxNak s = .next { s with tx := s.tx ++ [[0x04#8]], txBusy := true, prevValid := true, prevByte := 0x15#8 })
    ∧ (s.count ≤ s.cursor → s.sending = false →
        exec .rxNak s = .next { s with prevValid := true, prevByte := 0x15#8 })

/-- 42_sequencer.md R159, with the CLOSE of R166: RX_CA. -/
def Obligations.RxCaReaction : Prop :=
  ∀ s : State,
    decode (.rxByte 0x18#8) = .ok .rxCa
    ∧ (s.finished = false →
      exec .rxCa s = .next { s with
        finished := true
        subscribed := false
        rxq := []
        closeReason := .cancel
        resultName := s.name
        resultTotal := s.total
        resultWritten := s.written
        resultValid := true
        hostOut := s.hostOut ++ [.done ⟨s.name, s.total, s.written⟩]
        prevValid := true
        prevByte := 0x18#8 })
    ∧ (s.finished = true → exec .rxCa s = .next { s with prevValid := true, prevByte := 0x18#8 })

/-- 42_sequencer.md R160: RX_OTHER, any of the 252 other values, changes nothing but PREV, and so ends a run of C's:
the next C sends again. -/
def Obligations.RxOtherReaction : Prop :=
  ∀ (b : Byte) (s : State), b ≠ 0x43#8 → b ≠ 0x06#8 → b ≠ 0x15#8 → b ≠ 0x18#8 →
    decode (.rxByte b) = .ok (.rxOther b)
    ∧ exec (.rxOther b) s = .next { s with prevValid := true, prevByte := b }
    ∧ ({ s with prevValid := true, prevByte := b } : State).prevIsC = false

/-- 70_reset_and_hazards.md R237: the two start-up hazards. Before any C, an ACK closes the transfer with WRITTEN = 0;
and a NAK sends the header, leaves SENDING = 0, so that the ACK that follows closes with WRITTEN = 0. -/
def Obligations.StartUpHazards : Prop :=
  ∀ (name file : Bytes) (s₀ s : State), headerFault name file.length = none → exec (.start name file) s₀ = .next s →
    (∃ t, exec .rxAck s = .next t ∧ t.closeReason = .finalAck ∧ t.resultValid = true ∧ t.resultWritten = 0#32 ∧ t.tx = s.tx)
    ∧ ∃ u, exec .rxNak s = .next u ∧ u.sending = false
        ∧ u.tx = s.tx ++ [frame 0x01#8 0x00#8 (hdrPayload name file.length)]
        ∧ ∃ v w, exec .writeDoneOk u = .next v ∧ exec .rxAck v = .next w
          ∧ w.closeReason = .finalAck ∧ w.resultValid = true ∧ w.resultWritten = 0#32

/-! ## Channel events -/

/-- 42_sequencer.md R163: RX_CHUNK. -/
def Obligations.RxChunkEvent : Prop :=
  ∀ (bytes : Bytes) (s : State),
    decode (.chanEvt 0x20#8 [.bytes bytes]) = .ok (.rxChunk bytes)
    ∧ (bytes = [] → exec (.rxChunk bytes) s = .refused .emptyChunk)
    ∧ (bytes ≠ [] → s.subscribed = true → exec (.rxChunk bytes) s = .next { s with rxq := s.rxq ++ bytes })
    ∧ (bytes ≠ [] → s.subscribed = false → exec (.rxChunk bytes) s = .next s)

/-- 20_memory.md R59 (which the spec derives from 42_sequencer.md R154 and R163): where the chunk boundaries fall does
not matter. -/
def Obligations.ChunkBoundariesDoNotMatter : Prop :=
  ∀ (a b : Bytes) (s : State), a ≠ [] → b ≠ [] →
    ∃ t, exec (.rxChunk a) s = .next t ∧ exec (.rxChunk b) t = exec (.rxChunk (a ++ b)) s

/-- 42_sequencer.md R168: WRITE_DONE with ok = 1. -/
def Obligations.WriteDoneOkEvent : Prop :=
  ∀ s : State,
    decode (.chanEvt 0x21#8 [.bit true]) = .ok .writeDoneOk
    ∧ (s.txBusy = false → exec .writeDoneOk s = .refused .noWriteOutstanding)
    ∧ (s.txBusy = true → exec .writeDoneOk s = .next { s with txBusy := false })

/-- 42_sequencer.md R169: WRITE_DONE with ok = 0. -/
def Obligations.WriteDoneFailEvent : Prop :=
  ∀ s : State,
    decode (.chanEvt 0x21#8 [.bit false]) = .ok .writeDoneFail
    ∧ (s.txBusy = false → exec .writeDoneFail s = .refused .noWriteOutstanding)
    ∧ (s.txBusy = true → s.finished = false →
        exec .writeDoneFail s = .next { s with
          txBusy := false
          faultCause := .ioError
          finished := true
          subscribed := false
          rxq := []
          hostOut := s.hostOut ++ [.error .ioError] })
    ∧ (s.txBusy = true → s.finished = true → exec .writeDoneFail s = .next { s with txBusy := false })

/-- The four outbound rows, run as an instruction, are the channel write of their bytes and change nothing else. That an
outbound row is run by itself is the model's choice (log 5); TX_WRITE is 42_sequencer.md R165. -/
def Obligations.OutboundRowsWrite : Prop :=
  ∀ (seq : Byte) (payload : Bytes) (s : State),
    (payload.length = 128 →
      exec (.soh128 seq payload) s = .next { s with tx := s.tx ++ [frame 0x01#8 seq payload], txBusy := true })
    ∧ (payload.length = 1024 →
      exec (.stx1024 seq payload) s = .next { s with tx := s.tx ++ [frame 0x02#8 seq payload], txBusy := true })
    ∧ exec .eot s = .next { s with tx := s.tx ++ [[0x04#8]], txBusy := true }
    ∧ exec .eos s = .next { s with tx := s.tx ++ [[0x01#8, 0x00#8, 0xFF#8] ++ rep 0x00#8 130], txBusy := true }

/-! ## Steps -/

/-- A step runs the instruction the next entry of the inbox decodes to, in the state with that entry taken off. -/
def Obligations.StepRunsDecodedInput : Prop :=
  ∀ (s : State) (rest : List Input) (i : Instr), s.sendReq = none →
    (∀ op args, s.inbox = .host op args :: rest → decode (.hostCmd op args) = .ok i →
      step s = exec i { s with inbox := rest })
    ∧ (∀ ev args, s.inbox = .chan ev args :: rest → decode (.chanEvt ev args) = .ok i →
      step s = exec i { s with inbox := rest })
    ∧ (s.inbox = .resetSignal :: rest → step s = exec .reset { s with inbox := rest })

/-- 42_sequencer.md R154: the byte step is enabled exactly when SUBSCRIBED = 1, FINISHED = 0, TX_BUSY = 0 and RXQ is not
empty; it takes the head of RXQ off and runs what it decodes to. Otherwise it holds: the block's turn passes and nothing
changes: that a turn is then used up by a step that answers the state unchanged is the model's choice (log 3), and so is
that with an empty inbox the block takes its turn (log 4). -/
def Obligations.ByteStepEnabledExactly : Prop :=
  ∀ (s : State) (rest : List Input), s.sendReq = none → (s.inbox = [] ∧ rest = [] ∨ s.inbox = .turn :: rest) →
    (∀ b q, s.subscribed = true → s.finished = false → s.txBusy = false → s.rxq = b :: q →
      step s = exec (decodeRx b) { s with inbox := rest, rxq := q })
    ∧ (¬(s.subscribed = true ∧ s.finished = false ∧ s.txBusy = false ∧ s.rxq ≠ []) →
      step s = .next { s with inbox := rest })

/-- The instruction of a table word, stored where the step takes its next one from, is what the next step runs, in a
state that differs from `s` only in what that takes (log 7). -/
def Obligations.FetchWordRunsTableInstruction : Prop :=
  ∀ (s : State) (nbits w : Nat) (i : Instr), decodeTableWord nbits w = some i →
    ∃ t : State, step (s.withFetchWord nbits w) = exec i t
      ∧ t = { s with subscribed := t.subscribed, finished := t.finished, txBusy := t.txBusy, sendReq := none }

/-- The host reads a register: STATUS and the four counters always, the RESULT registers while RESULT_VALID = 1, and a
read of them faults otherwise (10_state.md R36, R37). No register changes. -/
def Obligations.HostReadsRegisters : Prop :=
  ∀ (s : State) (rest : List Input), s.sendReq = none →
    (∀ r v, s.inbox = .read r :: rest →
      (r = .status ∧ v = .word s.status ∨ r = .cursor ∧ v = .word s.cursor ∨ r = .count ∧ v = .word s.count
        ∨ r = .total ∧ v = .word s.total ∨ r = .written ∧ v = .word s.written) →
      step s = .next { s with inbox := rest, hostOut := s.hostOut ++ [.regValue r v] })
    ∧ (∀ r v, s.inbox = .read r :: rest → s.resultValid = true →
      (r = .resultName ∧ v = .bytes s.resultName ∨ r = .resultTotal ∧ v = .word s.resultTotal
        ∨ r = .resultWritten ∧ v = .word s.resultWritten) →
      step s = .next { s with inbox := rest, hostOut := s.hostOut ++ [.regValue r v] })
    ∧ ∀ r, s.inbox = .read r :: rest → s.resultValid = false → r ∈ [Reg.resultName, .resultTotal, .resultWritten] →
      step s = .fault .resultNotValid

/-- 10_state.md R37: where each field stands in STATUS, with the codes of 10_state.md R34 in CLOSE_REASON and of
60_exceptions.md R201 in FAULT_CAUSE. -/
def Obligations.StatusFields : Prop :=
  ∀ s : State,
    s.status.getLsbD 0 = s.subscribed ∧ s.status.getLsbD 1 = s.sessionActive ∧ s.status.getLsbD 2 = s.sending
    ∧ s.status.getLsbD 3 = s.finished ∧ s.status.getLsbD 4 = s.txBusy ∧ s.status.getLsbD 5 = s.prevValid
    ∧ s.status.getLsbD 6 = s.resultValid ∧ s.status.getLsbD 7 = false
    ∧ s.status.extractLsb' 8 4 = (match s.closeReason with
        | .none => 0#4
        | .finalAck => 1#4
        | .cancel => 2#4
        | .aborted => 3#4)
    ∧ s.status.extractLsb' 12 4 = (match s.faultCause with
        | .none => 0#4
        | .nameInvalid => 1#4
        | .nameTooLong => 2#4
        | .headerOverflow => 3#4
        | .fileTooLarge => 4#4
        | .ioError => 5#4)
    ∧ s.status.extractLsb' 16 8 = s.prevByte ∧ s.status.extractLsb' 24 8 = 0#8

/-! ## Whole-machine rules -/

/-- The invariants of 10_state.md R42, with those the other rules add, hold after reset. -/
def Obligations.InvariantsHoldAtReset : Prop :=
  ∀ inputs : List Input, ({ State.reset with inbox := inputs } : State).Inv

/-- Every step keeps the invariants of 10_state.md R42 and those the other rules add, from every state that has them and
whatever the other agents do. -/
def Obligations.EveryStepKeepsInvariants : Prop :=
  ∀ s t : State, s.Inv → step s = .next t → t.Inv

/-- Every state a run from reset reaches, whatever the other agents hand over, satisfies the invariants, and COUNT is at
most 4194305 (10_state.md R42). -/
def Obligations.ReachableStatesSatisfyInvariants : Prop :=
  ∀ s : State, Reachable s → s.Inv ∧ s.count.toNat ≤ 4194305

/-- The phase table of 10_state.md R38: its rows with their conditions, tested top to bottom, and no state with the
invariants is outside it. -/
def Obligations.PhaseTableIsComplete : Prop :=
  ∀ s : State, s.Inv →
    (∃ p, s.phase = some p)
    ∧ s.phase =
      if s.subscribed = false ∧ s.finished = false ∧ s.faultCause = .none then some .idle
      else if s.subscribed = false ∧ s.finished = false ∧ s.faultCause ≠ .none then some .rejected
      else if s.subscribed = true ∧ s.sending = false ∧ s.cursor = 0#32 then some .awaitingStart
      else if s.subscribed = true ∧ s.sending = true ∧ s.cursor = 0#32 then some .sendingHeader
      else if s.subscribed = true ∧ s.sending = true ∧ 1#32 ≤ s.cursor ∧ s.cursor < s.count then
        some (.sendingData s.cursor.toNat)
      else if s.subscribed = true ∧ s.cursor = s.count then some .awaitingFinalAck
      else if s.finished = true ∧ (s.closeReason = .finalAck ∨ s.closeReason = .cancel) then some .closed
      else if s.finished = true ∧ s.closeReason = .aborted then some .aborted
      else if s.finished = true ∧ s.faultCause = .ioError then some .failed
      else none

/-- A state with the invariants faults on nothing but a read of a RESULT register while RESULT_VALID = 0. -/
def Obligations.OnlyInvalidResultReadsFault : Prop :=
  ∀ (s : State) (f : Fault), s.Inv → step s = .fault f →
    f = .resultNotValid ∧ s.resultValid = false
    ∧ ∃ r rest, s.inbox = .read r :: rest ∧ r ∈ [Reg.resultName, .resultTotal, .resultWritten]

/-- 60_exceptions.md R203: the refused events, and no others. The forms that do not decode are the reserved command codes
and, by the model's choice, unknown channel codes and operands of the wrong shape (log 8, 9). -/
def Obligations.RefusedEventsExactly : Prop :=
  ∀ s : State, s.Inv →
    ((∃ r, step s = .refused r) ↔
      (∃ op args rest e, s.inbox = .host op args :: rest ∧ decode (.hostCmd op args) = .error e)
      ∨ (∃ ev args rest e, s.inbox = .chan ev args :: rest ∧ decode (.chanEvt ev args) = .error e)
      ∨ (∃ buf start len seed, s.nextInstr = some (.crc buf start len seed) ∧ (buf.length < start + len ∨ 0xFFFF < seed))
      ∨ (∃ name file, s.nextInstr = some (.start name file) ∧ (s.subscribed = true ∨ s.txBusy = true))
      ∨ ((s.nextInstr = some .writeDoneOk ∨ s.nextInstr = some .writeDoneFail) ∧ s.txBusy = false)
      ∨ s.nextInstr = some (.rxChunk []))

/-- 20_memory.md R58: a step adds to the TX stream nothing, or one whole frame of 133 or 1029 bytes or the byte 0x04,
and it adds only with no write outstanding, which there then is. -/
def Obligations.WritesAreWholeAndOneAtATime : Prop :=
  ∀ s t : State, s.Inv → step s = .next t →
    t.tx = s.tx
    ∨ (s.txBusy = false ∧ t.txBusy = true ∧ ∃ w, t.tx = s.tx ++ [w]
        ∧ ((isFrame w = true ∧ (w.length = 133 ∨ w.length = 1029)) ∨ w = [0x04#8]))

/-- A send needs a subscription and an inbound byte that is waiting (42_sequencer.md R151, R165): whatever a step writes
is in answer to a byte it takes off RXQ, and is the frame at the cursor the step leaves, EOT, or EOS. -/
def Obligations.WritesAnswerInboundBytes : Prop :=
  ∀ s t : State, s.Inv → step s = .next t → t.tx ≠ s.tx →
    s.subscribed = true ∧ s.finished = false ∧ (∃ b, s.rxq = b :: t.rxq)
    ∧ (t.tx = s.tx ++ [eotString] ∨ t.tx = s.tx ++ [eosFrame]
        ∨ ∃ f, s.pkt[t.cursor.toNat]? = some f ∧ t.tx = s.tx ++ [f])

/-- While a write is outstanding no inbound byte is handled (20_memory.md R62; 42_sequencer.md R170): a step of a block
with TX_BUSY = 1, unless it is RESET, sends nothing, keeps the cursor, the counts, the flags SENDING and SESSION_ACTIVE
and PREV, and drops a byte from RXQ only by emptying it with the subscription. -/
def Obligations.NoByteHandledDuringWrite : Prop :=
  ∀ s t : State, s.Inv → s.txBusy = true → s.nextInstr ≠ some .reset → step s = .next t →
    t.tx = s.tx ∧ t.cursor = s.cursor ∧ t.written = s.written ∧ t.sending = s.sending ∧ t.sessionActive = s.sessionActive
    ∧ t.prevValid = s.prevValid ∧ t.prevByte = s.prevByte
    ∧ (s.rxq <+: t.rxq ∨ (t.subscribed = false ∧ t.rxq = []))

/-- PKT, NAME, COUNT and TOTAL are written by START and RESET alone (10_state.md R22, R23, R26), so every resend of a
frame is the same bytes. -/
def Obligations.PacketStoreIsWrittenByStartOnly : Prop :=
  ∀ s t : State, s.Inv → step s = .next t →
    (s.nextInstr = some .reset ∨ ∃ name file, s.nextInstr = some (.start name file))
    ∨ (t.pkt = s.pkt ∧ t.name = s.name ∧ t.count = s.count ∧ t.total = s.total)

/-- 10_state.md R25: a step that is not a START or RESET leaves CURSOR or raises it by one, and raises it only for an
ACK with SENDING = 1. -/
def Obligations.CursorMovesByAckOnly : Prop :=
  ∀ s t : State, s.Inv → step s = .next t →
    (s.nextInstr = some .reset ∨ ∃ name file, s.nextInstr = some (.start name file))
    ∨ t.cursor = s.cursor
    ∨ (s.nextInstr = some .rxAck ∧ s.sending = true ∧ t.cursor.toNat = s.cursor.toNat + 1)

/-- 10_state.md R30: once FINISHED is 1, a step that is not START or RESET leaves FINISHED, CURSOR, WRITTEN, SENDING,
SESSION_ACTIVE, CLOSE_REASON and the RESULT registers as they are, and emits no DONE. -/
def Obligations.FinishedTransferIsFrozen : Prop :=
  ∀ s t : State, s.Inv → s.finished = true → s.nextInstr ≠ some .reset →
    (∀ name file, s.nextInstr ≠ some (.start name file)) → step s = .next t →
    t.finished = true ∧ t.cursor = s.cursor ∧ t.written = s.written ∧ t.sending = s.sending
    ∧ t.sessionActive = s.sessionActive ∧ t.closeReason = s.closeReason ∧ t.resultValid = s.resultValid
    ∧ t.resultName = s.resultName ∧ t.resultTotal = s.resultTotal ∧ t.resultWritten = s.resultWritten
    ∧ doneCount t = doneCount s

/-- A DONE is emitted only by the step that closes the transfer (42_sequencer.md R166; 60_exceptions.md R206): it turns
FINISHED from 0 to 1, leaves RESULT_VALID = 1 and tells the host the record that the RESULT registers hold. -/
def Obligations.DoneIsDeliveredByClosing : Prop :=
  ∀ s t : State, s.Inv → step s = .next t →
    doneCount t = doneCount s
    ∨ (s.finished = false ∧ t.finished = true ∧ t.resultValid = true
        ∧ (t.closeReason = .finalAck ∨ t.closeReason = .cancel)
        ∧ t.hostOut = s.hostOut ++ [.done ⟨t.resultName, t.resultTotal, t.resultWritten⟩]
        ∧ t.resultName = s.name ∧ t.resultTotal = s.total ∧ t.resultWritten = s.written)

/-- A fault is recorded and reported in the same step (60_exceptions.md R202): FAULT_CAUSE becomes a fault's code only
with an ERROR event of that cause. -/
def Obligations.FaultIsReportedWhenRecorded : Prop :=
  ∀ s t : State, s.Inv → step s = .next t → t.faultCause ≠ s.faultCause → t.faultCause ≠ .none →
    t.hostOut = s.hostOut ++ [.error t.faultCause]
    ∧ (t.faultCause = .ioError → s.nextInstr = some .writeDoneFail ∧ s.txBusy = true)
    ∧ (t.faultCause ≠ .ioError → ∃ name file, s.nextInstr = some (.start name file))

/-- 42_sequencer.md R172, R173: which states are final, which outcome each of them has (one, and only final states have
one), and when a transfer succeeded. A subscribed state is never final. -/
def Obligations.FinalStatesHaveAnOutcome : Prop :=
  ∀ s : State, s.Inv →
    (s.final = true ↔ (s.finished = true ∧ s.txBusy = false)
        ∨ (s.subscribed = false ∧ s.finished = false ∧ s.faultCause ≠ .none))
    ∧ (s.subscribed = true → s.final = false)
    ∧ (s.final = true → s.resultValid = true ∨ s.closeReason = .aborted ∨ s.faultCause ≠ .none)
    ∧ (s.final = true → s.resultValid = true →
        s.runOutcome = some (.done ⟨s.resultName, s.resultTotal, s.resultWritten⟩))
    ∧ (s.final = true → s.closeReason = .aborted → s.runOutcome = some .aborted)
    ∧ (s.final = true → s.faultCause ≠ .none → s.runOutcome = some (.fault s.faultCause))
    ∧ (s.final = false → s.runOutcome = none)
    ∧ (s.succeeded = true ↔ s.final = true ∧ s.resultValid = true ∧ s.resultWritten = s.resultTotal)
    ∧ (s.succeeded = true → s.written = s.total)

/-- After the ACK of the last data packet WRITTEN equals TOTAL (42_sequencer.md R157, which the spec derives from R156):
so a transfer that is closed by an ACK with the cursor past the last packet of a file that is not empty has succeeded. -/
def Obligations.FinalAckAtTheEndIsSuccess : Prop :=
  ∀ s t : State, s.Inv → s.subscribed = true → s.txBusy = false → s.sending = false → s.cursor = s.count →
    exec .rxAck s = .next t → t.final = true ∧ t.succeeded = true

/-- A receiver that asks with C and acknowledges every packet once gets the header, every data packet in order and EOT
(for an empty file the header and EOS), and the transfer closes with one DONE whose writtenBytes is the file's length:
for every accepted name and file, from every idle or finished block (95_test_vectors.md E5, E6; 42_sequencer.md R156,
R164, R166). -/
def Obligations.SmoothTransferSucceeds : Prop :=
  ∀ (s : State) (name file : Bytes), s.Inv → s.subscribed = false → s.txBusy = false →
    headerFault name file.length = none → s.inbox = smoothTransfer name file (chunkCount file.length) →
    ∃ t : State, runSteps s.inbox.length s = .next t
      ∧ t.tx = s.tx ++ [frame 0x01#8 0x00#8 (hdrPayload name file.length)]
          ++ (if file = [] then [eosFrame] else dataFrames file ++ [eotString])
      ∧ t.hostOut = s.hostOut ++ [.done ⟨name, BitVec.ofNat 32 file.length, BitVec.ofNat 32 file.length⟩]
      ∧ t.final = true ∧ t.succeeded = true ∧ t.inbox = []
end

