-- ==== Sys2Proof/Laws/Crc.lean ====
section
/-! SUPPORT. The CRC engine's fold, and a form of it that evaluates fast. -/

namespace Sys2Proof.Machine

/-- `forced` only changes the order of evaluation. -/
@[simp] theorem forced_eq {α : Type} (x : CrcWord) (k : CrcWord → α) : forced x k = k x := by
  unfold forced
  split
  · next h => exact congrArg k (BitVec.eq_of_toNat_eq (by simpa using h.symm))
  · next n h =>
    refine congrArg k (BitVec.eq_of_toNat_eq ?_)
    have := x.isLt
    simp only [BitVec.toNat_ofNat]
    omega

@[simp] theorem crcFold_nil (c : CrcWord) : crcFold c [] = c := rfl

@[simp] theorem crcFold_cons (c : CrcWord) (b : Byte) (bs : Bytes) : crcFold c (b :: bs) = crcFold (crcStep c b) bs := by
  simp [crcFold]

/-- The loop is the left fold of `crc_step` (40_crc.md R102). -/
theorem crcFold_eq_foldl (c : CrcWord) (bs : Bytes) : crcFold c bs = bs.foldl crcStep c := by
  induction bs generalizing c with
  | nil => rfl
  | cons b bs ih => simp [ih]

/-- Feeding one string and then another is feeding both. -/
theorem crcFold_append (c : CrcWord) (a b : Bytes) : crcFold c (a ++ b) = crcFold (crcFold c a) b := by
  simp [crcFold_eq_foldl]

/-- `crc16` folds over its whole operand. -/
theorem crc16_eq_fold (p : Bytes) : crc16 p = crcFold 0#16 p := by
  simp [crc16, crc, memRead]

end Sys2Proof.Machine
end

