-- ==== Sys2Proof/Laws/Framer.lean ====
section
/-! SUPPORT. Lengths and shapes of what the framer builds. -/

namespace Sys2Proof.Machine

@[simp] theorem memRead_length (space : Bytes) (a n : Nat) : (memRead space a n).length = min n (space.length - a) := by
  simp [memRead]

@[simp] theorem crcField_length (c : CrcWord) : (crcField c).length = 2 := rfl

@[simp] theorem frame_length (marker seq : Byte) (payload : Bytes) : (frame marker seq payload).length = payload.length + 5 := by
  simp [frame]

@[simp] theorem padded_length (piece : Bytes) (n : Nat) (h : piece.length ≤ n) : (padded piece n).length = n := by
  simp [padded]; omega

@[simp] theorem eosFrame_length : eosFrame.length = 133 := by simp [eosFrame]

@[simp] theorem dataFrames_length (buf : Bytes) : (dataFrames buf).length = chunkCount buf.length := by
  simp [dataFrames]

/-- A frame is its three leading bytes, its payload and its checksum. -/
theorem frame_eq (marker seq : Byte) (payload : Bytes) :
    frame marker seq payload = marker :: seq :: (0xFF#8 - seq) :: (payload ++ crcField (crc16 payload)) := by
  simp [frame]

/-- `DEC` always has a digit. -/
theorem decDigits_ne_nil (fuel n : Nat) : decDigits fuel n ≠ [] := by
  cases fuel <;> simp [decDigits]
  split <;> simp

/-- What acceptance of a header means, check by check (41_framer.md R121). -/
theorem headerFault_none {name : Bytes} {size : Nat} (h : headerFault name size = none) :
    size ≤ Config.maxFileBytes ∧ name ≠ [] ∧ 0#8 ∉ name ∧ name.length ≤ Config.maxName ∧
      name.length + 1 + (dec size).length + 1 ≤ Config.shortPayload := by
  unfold headerFault at h
  split at h <;> try contradiction
  split at h <;> try contradiction
  split at h <;> try contradiction
  split at h <;> try contradiction
  simp_all

/-- An accepted header builds (41_framer.md R124). -/
theorem buildHeader_of_accepted {name : Bytes} {size : Nat} (h : headerFault name size = none) :
    buildHeader name size = .ok (frame Config.markerShort 0#8 (hdrPayload name size)) := by
  simp [buildHeader, h]

/-- The header payload of an accepted name and size fills its 128 bytes (41_framer.md R123). -/
theorem hdrPayload_length {name : Bytes} {size : Nat} (h : headerFault name size = none) :
    (hdrPayload name size).length = Config.shortPayload := by
  have := (headerFault_none h).2.2.2.2
  simp [hdrPayload]
  omega

/-- A frame of a payload its marker admits is a frame (30_encoding.md R73). -/
theorem isFrame_frame {marker seq : Byte} {payload : Bytes}
    (h : marker = Config.markerShort ∧ payload.length = Config.shortPayload ∨
      marker = Config.markerLong ∧ payload.length = Config.longPayload) :
    isFrame (frame marker seq payload) = true := by
  rw [frame_eq]
  rcases h with ⟨rfl, h⟩ | ⟨rfl, h⟩ <;>
    simp [isFrame, ← h, Config.markerShort, Config.markerLong]

end Sys2Proof.Machine
end

