-- ==== Sys2Proof/Laws/State.lean ====
section
/-! SUPPORT. What each named state update does to each field, so that no proof unfolds a record update. -/

namespace Sys2Proof.Machine

/-! ### emit -/

@[simp] theorem emit_name (o : HostOut) (s : State) :
    (emit o s).name = s.name := rfl
@[simp] theorem emit_pkt (o : HostOut) (s : State) :
    (emit o s).pkt = s.pkt := rfl
@[simp] theorem emit_count (o : HostOut) (s : State) :
    (emit o s).count = s.count := rfl
@[simp] theorem emit_cursor (o : HostOut) (s : State) :
    (emit o s).cursor = s.cursor := rfl
@[simp] theorem emit_total (o : HostOut) (s : State) :
    (emit o s).total = s.total := rfl
@[simp] theorem emit_written (o : HostOut) (s : State) :
    (emit o s).written = s.written := rfl
@[simp] theorem emit_sessionActive (o : HostOut) (s : State) :
    (emit o s).sessionActive = s.sessionActive := rfl
@[simp] theorem emit_sending (o : HostOut) (s : State) :
    (emit o s).sending = s.sending := rfl
@[simp] theorem emit_finished (o : HostOut) (s : State) :
    (emit o s).finished = s.finished := rfl
@[simp] theorem emit_subscribed (o : HostOut) (s : State) :
    (emit o s).subscribed = s.subscribed := rfl
@[simp] theorem emit_prevValid (o : HostOut) (s : State) :
    (emit o s).prevValid = s.prevValid := rfl
@[simp] theorem emit_prevByte (o : HostOut) (s : State) :
    (emit o s).prevByte = s.prevByte := rfl
@[simp] theorem emit_txBusy (o : HostOut) (s : State) :
    (emit o s).txBusy = s.txBusy := rfl
@[simp] theorem emit_closeReason (o : HostOut) (s : State) :
    (emit o s).closeReason = s.closeReason := rfl
@[simp] theorem emit_faultCause (o : HostOut) (s : State) :
    (emit o s).faultCause = s.faultCause := rfl
@[simp] theorem emit_resultValid (o : HostOut) (s : State) :
    (emit o s).resultValid = s.resultValid := rfl
@[simp] theorem emit_resultName (o : HostOut) (s : State) :
    (emit o s).resultName = s.resultName := rfl
@[simp] theorem emit_resultTotal (o : HostOut) (s : State) :
    (emit o s).resultTotal = s.resultTotal := rfl
@[simp] theorem emit_resultWritten (o : HostOut) (s : State) :
    (emit o s).resultWritten = s.resultWritten := rfl
@[simp] theorem emit_rxq (o : HostOut) (s : State) :
    (emit o s).rxq = s.rxq := rfl
@[simp] theorem emit_inbox (o : HostOut) (s : State) :
    (emit o s).inbox = s.inbox := rfl
@[simp] theorem emit_tx (o : HostOut) (s : State) :
    (emit o s).tx = s.tx := rfl
@[simp] theorem emit_hostOut (o : HostOut) (s : State) :
    (emit o s).hostOut = s.hostOut ++ [o] := rfl
@[simp] theorem emit_sendReq (o : HostOut) (s : State) :
    (emit o s).sendReq = s.sendReq := rfl

/-! ### txWrite -/

@[simp] theorem txWrite_name (bs : Bytes) (s : State) :
    (txWrite bs s).name = s.name := rfl
@[simp] theorem txWrite_pkt (bs : Bytes) (s : State) :
    (txWrite bs s).pkt = s.pkt := rfl
@[simp] theorem txWrite_count (bs : Bytes) (s : State) :
    (txWrite bs s).count = s.count := rfl
@[simp] theorem txWrite_cursor (bs : Bytes) (s : State) :
    (txWrite bs s).cursor = s.cursor := rfl
@[simp] theorem txWrite_total (bs : Bytes) (s : State) :
    (txWrite bs s).total = s.total := rfl
@[simp] theorem txWrite_written (bs : Bytes) (s : State) :
    (txWrite bs s).written = s.written := rfl
@[simp] theorem txWrite_sessionActive (bs : Bytes) (s : State) :
    (txWrite bs s).sessionActive = s.sessionActive := rfl
@[simp] theorem txWrite_sending (bs : Bytes) (s : State) :
    (txWrite bs s).sending = s.sending := rfl
@[simp] theorem txWrite_finished (bs : Bytes) (s : State) :
    (txWrite bs s).finished = s.finished := rfl
@[simp] theorem txWrite_subscribed (bs : Bytes) (s : State) :
    (txWrite bs s).subscribed = s.subscribed := rfl
@[simp] theorem txWrite_prevValid (bs : Bytes) (s : State) :
    (txWrite bs s).prevValid = s.prevValid := rfl
@[simp] theorem txWrite_prevByte (bs : Bytes) (s : State) :
    (txWrite bs s).prevByte = s.prevByte := rfl
@[simp] theorem txWrite_txBusy (bs : Bytes) (s : State) :
    (txWrite bs s).txBusy = true := rfl
@[simp] theorem txWrite_closeReason (bs : Bytes) (s : State) :
    (txWrite bs s).closeReason = s.closeReason := rfl
@[simp] theorem txWrite_faultCause (bs : Bytes) (s : State) :
    (txWrite bs s).faultCause = s.faultCause := rfl
@[simp] theorem txWrite_resultValid (bs : Bytes) (s : State) :
    (txWrite bs s).resultValid = s.resultValid := rfl
@[simp] theorem txWrite_resultName (bs : Bytes) (s : State) :
    (txWrite bs s).resultName = s.resultName := rfl
@[simp] theorem txWrite_resultTotal (bs : Bytes) (s : State) :
    (txWrite bs s).resultTotal = s.resultTotal := rfl
@[simp] theorem txWrite_resultWritten (bs : Bytes) (s : State) :
    (txWrite bs s).resultWritten = s.resultWritten := rfl
@[simp] theorem txWrite_rxq (bs : Bytes) (s : State) :
    (txWrite bs s).rxq = s.rxq := rfl
@[simp] theorem txWrite_inbox (bs : Bytes) (s : State) :
    (txWrite bs s).inbox = s.inbox := rfl
@[simp] theorem txWrite_tx (bs : Bytes) (s : State) :
    (txWrite bs s).tx = s.tx ++ [bs] := rfl
@[simp] theorem txWrite_hostOut (bs : Bytes) (s : State) :
    (txWrite bs s).hostOut = s.hostOut := rfl
@[simp] theorem txWrite_sendReq (bs : Bytes) (s : State) :
    (txWrite bs s).sendReq = s.sendReq := rfl

/-! ### endTransfer -/

@[simp] theorem endTransfer_name (s : State) :
    (endTransfer s).name = s.name := rfl
@[simp] theorem endTransfer_pkt (s : State) :
    (endTransfer s).pkt = s.pkt := rfl
@[simp] theorem endTransfer_count (s : State) :
    (endTransfer s).count = s.count := rfl
@[simp] theorem endTransfer_cursor (s : State) :
    (endTransfer s).cursor = s.cursor := rfl
@[simp] theorem endTransfer_total (s : State) :
    (endTransfer s).total = s.total := rfl
@[simp] theorem endTransfer_written (s : State) :
    (endTransfer s).written = s.written := rfl
@[simp] theorem endTransfer_sessionActive (s : State) :
    (endTransfer s).sessionActive = s.sessionActive := rfl
@[simp] theorem endTransfer_sending (s : State) :
    (endTransfer s).sending = s.sending := rfl
@[simp] theorem endTransfer_finished (s : State) :
    (endTransfer s).finished = true := rfl
@[simp] theorem endTransfer_subscribed (s : State) :
    (endTransfer s).subscribed = false := rfl
@[simp] theorem endTransfer_prevValid (s : State) :
    (endTransfer s).prevValid = s.prevValid := rfl
@[simp] theorem endTransfer_prevByte (s : State) :
    (endTransfer s).prevByte = s.prevByte := rfl
@[simp] theorem endTransfer_txBusy (s : State) :
    (endTransfer s).txBusy = s.txBusy := rfl
@[simp] theorem endTransfer_closeReason (s : State) :
    (endTransfer s).closeReason = s.closeReason := rfl
@[simp] theorem endTransfer_faultCause (s : State) :
    (endTransfer s).faultCause = s.faultCause := rfl
@[simp] theorem endTransfer_resultValid (s : State) :
    (endTransfer s).resultValid = s.resultValid := rfl
@[simp] theorem endTransfer_resultName (s : State) :
    (endTransfer s).resultName = s.resultName := rfl
@[simp] theorem endTransfer_resultTotal (s : State) :
    (endTransfer s).resultTotal = s.resultTotal := rfl
@[simp] theorem endTransfer_resultWritten (s : State) :
    (endTransfer s).resultWritten = s.resultWritten := rfl
@[simp] theorem endTransfer_rxq (s : State) :
    (endTransfer s).rxq = [] := rfl
@[simp] theorem endTransfer_inbox (s : State) :
    (endTransfer s).inbox = s.inbox := rfl
@[simp] theorem endTransfer_tx (s : State) :
    (endTransfer s).tx = s.tx := rfl
@[simp] theorem endTransfer_hostOut (s : State) :
    (endTransfer s).hostOut = s.hostOut := rfl
@[simp] theorem endTransfer_sendReq (s : State) :
    (endTransfer s).sendReq = s.sendReq := rfl

/-! ### takeFault -/

@[simp] theorem takeFault_name (c : FaultCause) (s : State) :
    (takeFault c s).name = s.name := rfl
@[simp] theorem takeFault_pkt (c : FaultCause) (s : State) :
    (takeFault c s).pkt = s.pkt := rfl
@[simp] theorem takeFault_count (c : FaultCause) (s : State) :
    (takeFault c s).count = s.count := rfl
@[simp] theorem takeFault_cursor (c : FaultCause) (s : State) :
    (takeFault c s).cursor = s.cursor := rfl
@[simp] theorem takeFault_total (c : FaultCause) (s : State) :
    (takeFault c s).total = s.total := rfl
@[simp] theorem takeFault_written (c : FaultCause) (s : State) :
    (takeFault c s).written = s.written := rfl
@[simp] theorem takeFault_sessionActive (c : FaultCause) (s : State) :
    (takeFault c s).sessionActive = s.sessionActive := rfl
@[simp] theorem takeFault_sending (c : FaultCause) (s : State) :
    (takeFault c s).sending = s.sending := rfl
@[simp] theorem takeFault_finished (c : FaultCause) (s : State) :
    (takeFault c s).finished = s.finished := rfl
@[simp] theorem takeFault_subscribed (c : FaultCause) (s : State) :
    (takeFault c s).subscribed = s.subscribed := rfl
@[simp] theorem takeFault_prevValid (c : FaultCause) (s : State) :
    (takeFault c s).prevValid = s.prevValid := rfl
@[simp] theorem takeFault_prevByte (c : FaultCause) (s : State) :
    (takeFault c s).prevByte = s.prevByte := rfl
@[simp] theorem takeFault_txBusy (c : FaultCause) (s : State) :
    (takeFault c s).txBusy = s.txBusy := rfl
@[simp] theorem takeFault_closeReason (c : FaultCause) (s : State) :
    (takeFault c s).closeReason = s.closeReason := rfl
@[simp] theorem takeFault_faultCause (c : FaultCause) (s : State) :
    (takeFault c s).faultCause = c := rfl
@[simp] theorem takeFault_resultValid (c : FaultCause) (s : State) :
    (takeFault c s).resultValid = s.resultValid := rfl
@[simp] theorem takeFault_resultName (c : FaultCause) (s : State) :
    (takeFault c s).resultName = s.resultName := rfl
@[simp] theorem takeFault_resultTotal (c : FaultCause) (s : State) :
    (takeFault c s).resultTotal = s.resultTotal := rfl
@[simp] theorem takeFault_resultWritten (c : FaultCause) (s : State) :
    (takeFault c s).resultWritten = s.resultWritten := rfl
@[simp] theorem takeFault_rxq (c : FaultCause) (s : State) :
    (takeFault c s).rxq = s.rxq := rfl
@[simp] theorem takeFault_inbox (c : FaultCause) (s : State) :
    (takeFault c s).inbox = s.inbox := rfl
@[simp] theorem takeFault_tx (c : FaultCause) (s : State) :
    (takeFault c s).tx = s.tx := rfl
@[simp] theorem takeFault_hostOut (c : FaultCause) (s : State) :
    (takeFault c s).hostOut = s.hostOut ++ [.error c] := rfl
@[simp] theorem takeFault_sendReq (c : FaultCause) (s : State) :
    (takeFault c s).sendReq = s.sendReq := rfl

/-! ### notePrev -/

@[simp] theorem notePrev_name (b : Byte) (s : State) :
    (notePrev b s).name = s.name := rfl
@[simp] theorem notePrev_pkt (b : Byte) (s : State) :
    (notePrev b s).pkt = s.pkt := rfl
@[simp] theorem notePrev_count (b : Byte) (s : State) :
    (notePrev b s).count = s.count := rfl
@[simp] theorem notePrev_cursor (b : Byte) (s : State) :
    (notePrev b s).cursor = s.cursor := rfl
@[simp] theorem notePrev_total (b : Byte) (s : State) :
    (notePrev b s).total = s.total := rfl
@[simp] theorem notePrev_written (b : Byte) (s : State) :
    (notePrev b s).written = s.written := rfl
@[simp] theorem notePrev_sessionActive (b : Byte) (s : State) :
    (notePrev b s).sessionActive = s.sessionActive := rfl
@[simp] theorem notePrev_sending (b : Byte) (s : State) :
    (notePrev b s).sending = s.sending := rfl
@[simp] theorem notePrev_finished (b : Byte) (s : State) :
    (notePrev b s).finished = s.finished := rfl
@[simp] theorem notePrev_subscribed (b : Byte) (s : State) :
    (notePrev b s).subscribed = s.subscribed := rfl
@[simp] theorem notePrev_prevValid (b : Byte) (s : State) :
    (notePrev b s).prevValid = true := rfl
@[simp] theorem notePrev_prevByte (b : Byte) (s : State) :
    (notePrev b s).prevByte = b := rfl
@[simp] theorem notePrev_txBusy (b : Byte) (s : State) :
    (notePrev b s).txBusy = s.txBusy := rfl
@[simp] theorem notePrev_closeReason (b : Byte) (s : State) :
    (notePrev b s).closeReason = s.closeReason := rfl
@[simp] theorem notePrev_faultCause (b : Byte) (s : State) :
    (notePrev b s).faultCause = s.faultCause := rfl
@[simp] theorem notePrev_resultValid (b : Byte) (s : State) :
    (notePrev b s).resultValid = s.resultValid := rfl
@[simp] theorem notePrev_resultName (b : Byte) (s : State) :
    (notePrev b s).resultName = s.resultName := rfl
@[simp] theorem notePrev_resultTotal (b : Byte) (s : State) :
    (notePrev b s).resultTotal = s.resultTotal := rfl
@[simp] theorem notePrev_resultWritten (b : Byte) (s : State) :
    (notePrev b s).resultWritten = s.resultWritten := rfl
@[simp] theorem notePrev_rxq (b : Byte) (s : State) :
    (notePrev b s).rxq = s.rxq := rfl
@[simp] theorem notePrev_inbox (b : Byte) (s : State) :
    (notePrev b s).inbox = s.inbox := rfl
@[simp] theorem notePrev_tx (b : Byte) (s : State) :
    (notePrev b s).tx = s.tx := rfl
@[simp] theorem notePrev_hostOut (b : Byte) (s : State) :
    (notePrev b s).hostOut = s.hostOut := rfl
@[simp] theorem notePrev_sendReq (b : Byte) (s : State) :
    (notePrev b s).sendReq = s.sendReq := rfl

/-! ### popRx -/

@[simp] theorem popRx_name (s : State) :
    (popRx s).name = s.name := rfl
@[simp] theorem popRx_pkt (s : State) :
    (popRx s).pkt = s.pkt := rfl
@[simp] theorem popRx_count (s : State) :
    (popRx s).count = s.count := rfl
@[simp] theorem popRx_cursor (s : State) :
    (popRx s).cursor = s.cursor := rfl
@[simp] theorem popRx_total (s : State) :
    (popRx s).total = s.total := rfl
@[simp] theorem popRx_written (s : State) :
    (popRx s).written = s.written := rfl
@[simp] theorem popRx_sessionActive (s : State) :
    (popRx s).sessionActive = s.sessionActive := rfl
@[simp] theorem popRx_sending (s : State) :
    (popRx s).sending = s.sending := rfl
@[simp] theorem popRx_finished (s : State) :
    (popRx s).finished = s.finished := rfl
@[simp] theorem popRx_subscribed (s : State) :
    (popRx s).subscribed = s.subscribed := rfl
@[simp] theorem popRx_prevValid (s : State) :
    (popRx s).prevValid = s.prevValid := rfl
@[simp] theorem popRx_prevByte (s : State) :
    (popRx s).prevByte = s.prevByte := rfl
@[simp] theorem popRx_txBusy (s : State) :
    (popRx s).txBusy = s.txBusy := rfl
@[simp] theorem popRx_closeReason (s : State) :
    (popRx s).closeReason = s.closeReason := rfl
@[simp] theorem popRx_faultCause (s : State) :
    (popRx s).faultCause = s.faultCause := rfl
@[simp] theorem popRx_resultValid (s : State) :
    (popRx s).resultValid = s.resultValid := rfl
@[simp] theorem popRx_resultName (s : State) :
    (popRx s).resultName = s.resultName := rfl
@[simp] theorem popRx_resultTotal (s : State) :
    (popRx s).resultTotal = s.resultTotal := rfl
@[simp] theorem popRx_resultWritten (s : State) :
    (popRx s).resultWritten = s.resultWritten := rfl
@[simp] theorem popRx_rxq (s : State) :
    (popRx s).rxq = s.rxq.tail := rfl
@[simp] theorem popRx_inbox (s : State) :
    (popRx s).inbox = s.inbox := rfl
@[simp] theorem popRx_tx (s : State) :
    (popRx s).tx = s.tx := rfl
@[simp] theorem popRx_hostOut (s : State) :
    (popRx s).hostOut = s.hostOut := rfl
@[simp] theorem popRx_sendReq (s : State) :
    (popRx s).sendReq = s.sendReq := rfl

/-! ### startFault -/

@[simp] theorem startFault_name (c : FaultCause) (s : State) :
    (startFault c s).name = s.name := rfl
@[simp] theorem startFault_pkt (c : FaultCause) (s : State) :
    (startFault c s).pkt = s.pkt := rfl
@[simp] theorem startFault_count (c : FaultCause) (s : State) :
    (startFault c s).count = s.count := rfl
@[simp] theorem startFault_cursor (c : FaultCause) (s : State) :
    (startFault c s).cursor = s.cursor := rfl
@[simp] theorem startFault_total (c : FaultCause) (s : State) :
    (startFault c s).total = s.total := rfl
@[simp] theorem startFault_written (c : FaultCause) (s : State) :
    (startFault c s).written = s.written := rfl
@[simp] theorem startFault_sessionActive (c : FaultCause) (s : State) :
    (startFault c s).sessionActive = s.sessionActive := rfl
@[simp] theorem startFault_sending (c : FaultCause) (s : State) :
    (startFault c s).sending = s.sending := rfl
@[simp] theorem startFault_finished (c : FaultCause) (s : State) :
    (startFault c s).finished = false := rfl
@[simp] theorem startFault_subscribed (c : FaultCause) (s : State) :
    (startFault c s).subscribed = s.subscribed := rfl
@[simp] theorem startFault_prevValid (c : FaultCause) (s : State) :
    (startFault c s).prevValid = s.prevValid := rfl
@[simp] theorem startFault_prevByte (c : FaultCause) (s : State) :
    (startFault c s).prevByte = s.prevByte := rfl
@[simp] theorem startFault_txBusy (c : FaultCause) (s : State) :
    (startFault c s).txBusy = s.txBusy := rfl
@[simp] theorem startFault_closeReason (c : FaultCause) (s : State) :
    (startFault c s).closeReason = .none := rfl
@[simp] theorem startFault_faultCause (c : FaultCause) (s : State) :
    (startFault c s).faultCause = c := rfl
@[simp] theorem startFault_resultValid (c : FaultCause) (s : State) :
    (startFault c s).resultValid = false := rfl
@[simp] theorem startFault_resultName (c : FaultCause) (s : State) :
    (startFault c s).resultName = s.resultName := rfl
@[simp] theorem startFault_resultTotal (c : FaultCause) (s : State) :
    (startFault c s).resultTotal = s.resultTotal := rfl
@[simp] theorem startFault_resultWritten (c : FaultCause) (s : State) :
    (startFault c s).resultWritten = s.resultWritten := rfl
@[simp] theorem startFault_rxq (c : FaultCause) (s : State) :
    (startFault c s).rxq = s.rxq := rfl
@[simp] theorem startFault_inbox (c : FaultCause) (s : State) :
    (startFault c s).inbox = s.inbox := rfl
@[simp] theorem startFault_tx (c : FaultCause) (s : State) :
    (startFault c s).tx = s.tx := rfl
@[simp] theorem startFault_hostOut (c : FaultCause) (s : State) :
    (startFault c s).hostOut = s.hostOut ++ [.error c] := rfl
@[simp] theorem startFault_sendReq (c : FaultCause) (s : State) :
    (startFault c s).sendReq = s.sendReq := rfl

/-! ### beginTransfer -/

@[simp] theorem beginTransfer_name (nm file : Bytes) (fs : List Bytes) (s : State) :
    (beginTransfer nm file fs s).name = nm := rfl
@[simp] theorem beginTransfer_pkt (nm file : Bytes) (fs : List Bytes) (s : State) :
    (beginTransfer nm file fs s).pkt = fs := rfl
@[simp] theorem beginTransfer_count (nm file : Bytes) (fs : List Bytes) (s : State) :
    (beginTransfer nm file fs s).count = BitVec.ofNat 32 fs.length := rfl
@[simp] theorem beginTransfer_cursor (nm file : Bytes) (fs : List Bytes) (s : State) :
    (beginTransfer nm file fs s).cursor = 0#32 := rfl
@[simp] theorem beginTransfer_total (nm file : Bytes) (fs : List Bytes) (s : State) :
    (beginTransfer nm file fs s).total = BitVec.ofNat 32 file.length := rfl
@[simp] theorem beginTransfer_written (nm file : Bytes) (fs : List Bytes) (s : State) :
    (beginTransfer nm file fs s).written = 0#32 := rfl
@[simp] theorem beginTransfer_sessionActive (nm file : Bytes) (fs : List Bytes) (s : State) :
    (beginTransfer nm file fs s).sessionActive = true := rfl
@[simp] theorem beginTransfer_sending (nm file : Bytes) (fs : List Bytes) (s : State) :
    (beginTransfer nm file fs s).sending = false := rfl
@[simp] theorem beginTransfer_finished (nm file : Bytes) (fs : List Bytes) (s : State) :
    (beginTransfer nm file fs s).finished = false := rfl
@[simp] theorem beginTransfer_subscribed (nm file : Bytes) (fs : List Bytes) (s : State) :
    (beginTransfer nm file fs s).subscribed = true := rfl
@[simp] theorem beginTransfer_prevValid (nm file : Bytes) (fs : List Bytes) (s : State) :
    (beginTransfer nm file fs s).prevValid = false := rfl
@[simp] theorem beginTransfer_prevByte (nm file : Bytes) (fs : List Bytes) (s : State) :
    (beginTransfer nm file fs s).prevByte = s.prevByte := rfl
@[simp] theorem beginTransfer_txBusy (nm file : Bytes) (fs : List Bytes) (s : State) :
    (beginTransfer nm file fs s).txBusy = s.txBusy := rfl
@[simp] theorem beginTransfer_closeReason (nm file : Bytes) (fs : List Bytes) (s : State) :
    (beginTransfer nm file fs s).closeReason = .none := rfl
@[simp] theorem beginTransfer_faultCause (nm file : Bytes) (fs : List Bytes) (s : State) :
    (beginTransfer nm file fs s).faultCause = .none := rfl
@[simp] theorem beginTransfer_resultValid (nm file : Bytes) (fs : List Bytes) (s : State) :
    (beginTransfer nm file fs s).resultValid = false := rfl
@[simp] theorem beginTransfer_resultName (nm file : Bytes) (fs : List Bytes) (s : State) :
    (beginTransfer nm file fs s).resultName = s.resultName := rfl
@[simp] theorem beginTransfer_resultTotal (nm file : Bytes) (fs : List Bytes) (s : State) :
    (beginTransfer nm file fs s).resultTotal = s.resultTotal := rfl
@[simp] theorem beginTransfer_resultWritten (nm file : Bytes) (fs : List Bytes) (s : State) :
    (beginTransfer nm file fs s).resultWritten = s.resultWritten := rfl
@[simp] theorem beginTransfer_rxq (nm file : Bytes) (fs : List Bytes) (s : State) :
    (beginTransfer nm file fs s).rxq = [] := rfl
@[simp] theorem beginTransfer_inbox (nm file : Bytes) (fs : List Bytes) (s : State) :
    (beginTransfer nm file fs s).inbox = s.inbox := rfl
@[simp] theorem beginTransfer_tx (nm file : Bytes) (fs : List Bytes) (s : State) :
    (beginTransfer nm file fs s).tx = s.tx := rfl
@[simp] theorem beginTransfer_hostOut (nm file : Bytes) (fs : List Bytes) (s : State) :
    (beginTransfer nm file fs s).hostOut = s.hostOut := rfl
@[simp] theorem beginTransfer_sendReq (nm file : Bytes) (fs : List Bytes) (s : State) :
    (beginTransfer nm file fs s).sendReq = s.sendReq := rfl

/-! ### close -/

/-- CLOSE on a finished transfer does nothing (42_sequencer.md R166). -/
theorem close_of_finished {r : CloseReason} {s : State} (h : s.finished = true) : close r s = s := by
  simp [close, h]

/-- CLOSE on an open transfer, whole (42_sequencer.md R166). -/
theorem close_of_open {r : CloseReason} {s : State} (h : s.finished = false) :
    close r s = { s with
      finished := true
      subscribed := false
      rxq := []
      closeReason := r
      resultName := s.name
      resultTotal := s.total
      resultWritten := s.written
      resultValid := true
      hostOut := s.hostOut ++ [.done ⟨s.name, s.total, s.written⟩] } := by
  simp [close, h, emit, endTransfer, State.result]

@[simp] theorem close_name (r : CloseReason) (s : State) : (close r s).name = s.name := by
  unfold close; split <;> rfl
@[simp] theorem close_pkt (r : CloseReason) (s : State) : (close r s).pkt = s.pkt := by
  unfold close; split <;> rfl
@[simp] theorem close_count (r : CloseReason) (s : State) : (close r s).count = s.count := by
  unfold close; split <;> rfl
@[simp] theorem close_cursor (r : CloseReason) (s : State) : (close r s).cursor = s.cursor := by
  unfold close; split <;> rfl
@[simp] theorem close_total (r : CloseReason) (s : State) : (close r s).total = s.total := by
  unfold close; split <;> rfl
@[simp] theorem close_written (r : CloseReason) (s : State) : (close r s).written = s.written := by
  unfold close; split <;> rfl
@[simp] theorem close_sessionActive (r : CloseReason) (s : State) : (close r s).sessionActive = s.sessionActive := by
  unfold close; split <;> rfl
@[simp] theorem close_sending (r : CloseReason) (s : State) : (close r s).sending = s.sending := by
  unfold close; split <;> rfl
@[simp] theorem close_prevValid (r : CloseReason) (s : State) : (close r s).prevValid = s.prevValid := by
  unfold close; split <;> rfl
@[simp] theorem close_prevByte (r : CloseReason) (s : State) : (close r s).prevByte = s.prevByte := by
  unfold close; split <;> rfl
@[simp] theorem close_txBusy (r : CloseReason) (s : State) : (close r s).txBusy = s.txBusy := by
  unfold close; split <;> rfl
@[simp] theorem close_faultCause (r : CloseReason) (s : State) : (close r s).faultCause = s.faultCause := by
  unfold close; split <;> rfl
@[simp] theorem close_inbox (r : CloseReason) (s : State) : (close r s).inbox = s.inbox := by
  unfold close; split <;> rfl
@[simp] theorem close_tx (r : CloseReason) (s : State) : (close r s).tx = s.tx := by
  unfold close; split <;> rfl
@[simp] theorem close_sendReq (r : CloseReason) (s : State) : (close r s).sendReq = s.sendReq := by
  unfold close; split <;> rfl
@[simp] theorem close_finished (r : CloseReason) (s : State) : (close r s).finished = true := by
  unfold close; split <;> simp_all [emit, endTransfer]

end Sys2Proof.Machine
end

