-- ==== Sys2Proof/Laws/Ops.lean ====
section
/-! SUPPORT. One inversion lemma per shared operation: everything it can do when it answers a next state. -/

namespace Sys2Proof.Machine

@[simp] theorem andThen_next (s : State) (f : State → State) : andThen (.next s) f = .next (f s) := rfl
@[simp] theorem andThen_fault (r : Fault) (f : State → State) : andThen (.fault r) f = .fault r := rfl
@[simp] theorem andThen_refused (r : Refusal) (f : State → State) : andThen (.refused r) f = .refused r := rfl

/-- Going on from an outcome gives a next state only from a next state. -/
theorem andThen_cases {o : Out} {f : State → State} {t : State} (h : andThen o f = .next t) :
    ∃ s, o = .next s ∧ t = f s := by
  cases o <;> simp_all [andThen]

/-- SENDPACKET writes the frame at the cursor, or EOT, or nothing (42_sequencer.md R164). -/
theorem sendPacket_cases {s t : State} (h : sendPacket s = .next t) :
    (s.cursor < s.count ∧ ∃ f, s.pkt[s.cursor.toNat]? = some f ∧ t = txWrite f s) ∨
    (s.count ≤ s.cursor ∧ s.sending = true ∧ t = txWrite eotString s) ∨
    (s.count ≤ s.cursor ∧ s.sending = false ∧ t = s) := by
  unfold sendPacket at h
  split at h
  · next hc =>
    split at h
    · next f hf => exact .inl ⟨hc, f, hf, by simpa using h.symm⟩
    · simp at h
  · next hc =>
    have hc' : s.count ≤ s.cursor := by simpa using hc
    split at h
    · next hs => exact .inr (.inl ⟨hc', hs, by simpa using h.symm⟩)
    · next hs => exact .inr (.inr ⟨hc', by simpa using hs, by simpa using h.symm⟩)

/-- With COUNT frames in PKT, SENDPACKET always answers a next state. -/
theorem sendPacket_next {s : State} (h : s.pkt.length = s.count.toNat) : ∃ t, sendPacket s = .next t := by
  unfold sendPacket
  split
  · next hc =>
    have : s.cursor.toNat < s.pkt.length := by rw [h]; exact hc
    rw [List.getElem?_eq_getElem this]
    exact ⟨_, rfl⟩
  · split <;> exact ⟨_, rfl⟩

/-- Below COUNT, SENDPACKET writes PKT[CURSOR]. -/
theorem sendPacket_frame {s : State} {f : Bytes} (hc : s.cursor < s.count) (hf : s.pkt[s.cursor.toNat]? = some f) :
    sendPacket s = .next (txWrite f s) := by
  simp [sendPacket, hc, hf]

/-- Past the packets with SENDING = 1, SENDPACKET writes EOT. -/
theorem sendPacket_eot {s : State} (hc : ¬ s.cursor < s.count) (hs : s.sending = true) :
    sendPacket s = .next (txWrite eotString s) := by
  simp only [sendPacket, hc, hs, if_true, if_false]

/-- Past the packets with SENDING = 0, SENDPACKET does nothing. -/
theorem sendPacket_nothing {s : State} (hc : ¬ s.cursor < s.count) (hs : s.sending = false) :
    sendPacket s = .next s := by
  simp [sendPacket, hc, hs]

/-- A SENDPACKET that answers a next state changes nothing but the TX stream and TX_BUSY. -/
theorem sendPacket_frame_rule {s t : State} (h : sendPacket s = .next t) :
    t = { s with tx := t.tx, txBusy := t.txBusy } := by
  rcases sendPacket_cases h with ⟨-, f, -, rfl⟩ | ⟨-, -, rfl⟩ | ⟨-, -, rfl⟩ <;> rfl

/-- START's frames when the header is accepted: the header and the data frames (42_sequencer.md R150). -/
theorem buildPackets_of_accepted {name file : Bytes} (h : headerFault name file.length = none) :
    buildPackets name file =
      .ok (frame Config.markerShort 0#8 (hdrPayload name file.length) :: dataFrames file) := by
  have := (headerFault_none h).1
  simp [buildPackets, buildHeader_of_accepted h, buildData, Nat.not_lt.mpr this]

/-- START's fault is the header's: a file that passes the header's size check passes BUILD_DATA's (42_sequencer.md
R150). -/
theorem buildPackets_of_fault {name file : Bytes} {c : FaultCause} (h : headerFault name file.length = some c) :
    buildPackets name file = .error c := by
  simp [buildPackets, buildHeader, h]

/-- A register read by the host changes nothing but what the host was told. -/
theorem hostRead_cases {r : Reg} {s t : State} (h : hostRead r s = .next t) :
    ∃ v, readReg r s = .ok v ∧ t = emit (.regValue r v) s := by
  unfold hostRead at h
  split at h
  · next v hv => exact ⟨v, hv, by simpa using h.symm⟩
  · simp at h

end Sys2Proof.Machine
end

