-- ==== Sys2Proof/Laws/Fetch.lean ====
section
/-! SUPPORT. What a step takes its event from, said once. -/

namespace Sys2Proof.Machine

/-- An enabled byte step: the flags and a byte at the head of RXQ (42_sequencer.md R154). -/
theorem byteReady_iff (s : State) :
    s.byteReady = true ↔ s.subscribed = true ∧ s.finished = false ∧ s.txBusy = false ∧ s.rxq ≠ [] := by
  simp [State.byteReady, and_assoc]

/-- The block's turn: an enabled byte step takes the head of RXQ off, and otherwise the block waits. -/
theorem byteTurn_cases (s : State) :
    (∃ b q, s.byteReady = true ∧ s.rxq = b :: q ∧ byteTurn s = .run (.rxByte b) { s with rxq := q }) ∨
    (s.byteReady = false ∧ byteTurn s = .wait s) := by
  unfold byteTurn
  split
  · next h =>
    have hq := ((byteReady_iff s).mp h).2.2.2
    match hr : s.rxq with
    | [] => exact absurd hr hq
    | b :: q => exact .inl ⟨b, q, h, rfl, by simp [popRx, hr]⟩
  · next h => exact .inr ⟨by simpa using h, rfl⟩

/-- With no outbound row to be run alone, the next step takes the next input. -/
theorem fetch_of_noSend {s : State} (h : s.sendReq = none) : fetch s = nextInput s := by
  simp [fetch, h]

/-- A step that runs an encoded form is `exec` of what it decodes to. -/
theorem step_of_run {s t : State} {raw : Raw} {i : Instr} (hf : fetch s = .run raw t) (hd : decode raw = .ok i) :
    step s = exec i t := by
  simp [step, hf, hd]

/-- A state is itself with the inbox it has. -/
theorem with_own_inbox {s : State} {l : List Input} (h : s.inbox = l) : { s with inbox := l } = s := by
  subst h; rfl

/-- What a step can do when no outbound row waits: run a host command, a channel event, RESET or an inbound byte, read a
register, or wait. -/
theorem nextInput_cases (s : State) :
    (∃ op args rest, s.inbox = .host op args :: rest ∧
      nextInput s = .run (.hostCmd op args) { s with inbox := rest }) ∨
    (∃ ev args rest, s.inbox = .chan ev args :: rest ∧
      nextInput s = .run (.chanEvt ev args) { s with inbox := rest }) ∨
    (∃ rest, s.inbox = .resetSignal :: rest ∧ nextInput s = .run .resetSignal { s with inbox := rest }) ∨
    (∃ r rest, s.inbox = .read r :: rest ∧ nextInput s = .read r { s with inbox := rest }) ∨
    (∃ b q rest, s.byteReady = true ∧ s.rxq = b :: q ∧ (s.inbox = [] ∧ rest = [] ∨ s.inbox = .turn :: rest) ∧
      nextInput s = .run (.rxByte b) { s with inbox := rest, rxq := q }) ∨
    (∃ rest, s.byteReady = false ∧ (s.inbox = [] ∧ rest = [] ∨ s.inbox = .turn :: rest) ∧
      nextInput s = .wait { s with inbox := rest }) := by
  match h : s.inbox with
  | [] =>
    rcases byteTurn_cases s with ⟨b, q, h1, h2, h3⟩ | ⟨h1, h2⟩
    · refine .inr (.inr (.inr (.inr (.inl ⟨b, q, [], h1, h2, .inl ⟨rfl, rfl⟩, ?_⟩))))
      have e : nextInput s = byteTurn s := by simp [nextInput, h]
      rw [e, h3, ← h]
    · refine .inr (.inr (.inr (.inr (.inr ⟨[], h1, .inl ⟨rfl, rfl⟩, ?_⟩))))
      have e : nextInput s = byteTurn s := by simp [nextInput, h]
      rw [e, h2, with_own_inbox h]
  | .turn :: rest =>
    rcases byteTurn_cases { s with inbox := rest } with ⟨b, q, h1, h2, h3⟩ | ⟨h1, h2⟩
    · exact .inr (.inr (.inr (.inr (.inl ⟨b, q, rest, h1, h2, .inr rfl, by simp [nextInput, h, h3]⟩))))
    · exact .inr (.inr (.inr (.inr (.inr ⟨rest, h1, .inr rfl, by simp [nextInput, h, h2]⟩))))
  | .host op args :: rest => exact .inl ⟨op, args, rest, rfl, by simp [nextInput, h]⟩
  | .chan ev args :: rest => exact .inr (.inl ⟨ev, args, rest, rfl, by simp [nextInput, h]⟩)
  | .resetSignal :: rest => exact .inr (.inr (.inl ⟨rest, rfl, by simp [nextInput, h]⟩))
  | .read r :: rest => exact .inr (.inr (.inr (.inl ⟨r, rest, rfl, by simp [nextInput, h]⟩)))

end Sys2Proof.Machine
end

