-- ==== Sys2Proof/Laws/PerInstr.lean ====
section
/-! SUPPORT. A statement about every instruction as syntax, one lemma per constructor: its encoding stands on the
interface its table row's format names (opcode_table.json). -/

namespace Sys2Proof.Laws.EncodedFormat

/-- The encoding of `i` stands on the interface of the row's format. -/
def Statement (i : Instr) : Prop := (encode i).format = i.format

theorem rxC : Statement .rxC := rfl
theorem rxAck : Statement .rxAck := rfl
theorem rxNak : Statement .rxNak := rfl
theorem rxCa : Statement .rxCa := rfl
theorem rxOther (b : Byte) : Statement (.rxOther b) := rfl
theorem crc (buf : Bytes) (start len seed : Nat) : Statement (.crc buf start len seed) := rfl
theorem buildHeader (name : Bytes) (size : Nat) : Statement (.buildHeader name size) := rfl
theorem buildData (buf : Bytes) : Statement (.buildData buf) := rfl
theorem start (name file : Bytes) : Statement (.start name file) := rfl
theorem abort : Statement .abort := rfl
theorem reset : Statement .reset := rfl
theorem rxChunk (bytes : Bytes) : Statement (.rxChunk bytes) := rfl
theorem writeDoneOk : Statement .writeDoneOk := rfl
theorem writeDoneFail : Statement .writeDoneFail := rfl
theorem soh128 (seq : Byte) (payload : Bytes) : Statement (.soh128 seq payload) := rfl
theorem stx1024 (seq : Byte) (payload : Bytes) : Statement (.stx1024 seq payload) := rfl
theorem eot : Statement .eot := rfl
theorem eos : Statement .eos := rfl

end Sys2Proof.Laws.EncodedFormat
end

