-- ==== Sys2Proof/Laws/Step.lean ====
section
/-! SUPPORT. What a step can do, said once: which instruction it runs and in which state. -/

namespace Sys2Proof.Machine

/-- What a host command code decodes to is a host command. -/
theorem decode_host_format {op : Byte} {args : List Operand} {i : Instr} (h : decode (.hostCmd op args) = .ok i) :
    i.format = .hostCmd := by
  simp only [decode, decodeHost] at h
  repeat' split at h
  all_goals first | (cases h; done) | (injection h with h; subst h; rfl)

/-- What a channel event code decodes to is a channel event. -/
theorem decode_chan_format {ev : Byte} {args : List Operand} {i : Instr} (h : decode (.chanEvt ev args) = .ok i) :
    i.format = .chanEvt := by
  simp only [decode, decodeChan] at h
  repeat' split at h
  all_goals first | (cases h; done) | (injection h with h; subst h; rfl)

/-- A step that answers a next state, with no outbound row to be run alone: it runs a host command, a channel event or
RESET, with that entry taken off the inbox; or an inbound byte, with that byte taken off RXQ; or it reads a register; or
the block waits. -/
theorem step_cases {s t : State} (hs : s.sendReq = none) (h : step s = .next t) :
    (∃ i rest, s.nextInstr = some i ∧ (i.format = .hostCmd ∨ i.format = .chanEvt ∨ i.format = .signal) ∧
      exec i { s with inbox := rest } = .next t) ∨
    (∃ b q rest, s.nextInstr = some (decodeRx b) ∧ s.byteReady = true ∧ s.rxq = b :: q ∧
      exec (decodeRx b) { s with inbox := rest, rxq := q } = .next t) ∨
    (∃ r v rest, s.nextInstr = none ∧ readReg r s = .ok v ∧ t = emit (.regValue r v) { s with inbox := rest }) ∨
    (∃ rest, s.nextInstr = none ∧ t = { s with inbox := rest }) := by
  have hf := fetch_of_noSend hs
  rcases nextInput_cases s with ⟨op, args, rest, -, e⟩ | ⟨ev, args, rest, -, e⟩ | ⟨rest, -, e⟩ | ⟨r, rest, -, e⟩ |
    ⟨b, q, rest, hb, hq, -, e⟩ | ⟨rest, -, -, e⟩
  · rw [e] at hf
    match hd : decode (.hostCmd op args) with
    | .ok i =>
      rw [step_of_run hf hd] at h
      exact .inl ⟨i, rest, by simp [State.nextInstr, hf, hd], .inl (decode_host_format hd), h⟩
    | .error _ => simp [step, hf, hd] at h
  · rw [e] at hf
    match hd : decode (.chanEvt ev args) with
    | .ok i =>
      rw [step_of_run hf hd] at h
      exact .inl ⟨i, rest, by simp [State.nextInstr, hf, hd], .inr (.inl (decode_chan_format hd)), h⟩
    | .error _ => simp [step, hf, hd] at h
  · rw [e] at hf
    rw [step_of_run hf (i := .reset) rfl] at h
    exact .inl ⟨.reset, rest, by simp [State.nextInstr, hf, decode], .inr (.inr rfl), h⟩
  · rw [e] at hf
    simp only [step, hf] at h
    obtain ⟨v, hv, rfl⟩ := hostRead_cases h
    exact .inr (.inr (.inl ⟨r, v, rest, by simp [State.nextInstr, hf], by cases r <;> exact hv, rfl⟩))
  · rw [e] at hf
    rw [step_of_run hf (i := decodeRx b) rfl] at h
    exact .inr (.inl ⟨b, q, rest, by simp [State.nextInstr, hf, decode], hb, hq, h⟩)
  · rw [e] at hf
    simp only [step, hf] at h
    exact .inr (.inr (.inr ⟨rest, by simp [State.nextInstr, hf], by simpa using h.symm⟩))

end Sys2Proof.Machine
end

