-- ==== Sys2Proof/Tests/Slice0.lean ====
section
/-! SUPPORT. Tests: the ill-formed terms, the encodings written out from 30_encoding.md, one step per instruction
against 95_test_vectors.md, and a witness for the hypotheses of every obligation that has some. Expected values are the
spec's vectors; the id of the vector stands at each test. -/

namespace Sys2Proof.Tests

open Sys2Proof Sys2Proof.Machine

-- One theorem's kernel evaluation at a time: each waiting one would hold a thread's stack.
set_option Elab.async false

/-! ## Helpers -/

/-- The next state, if there is one. -/
def nextOf : Out → Option State
  | .next s => some s
  | .fault _ => none
  | .refused _ => none

/-- The refusal, if there is one. -/
def refusalOf : Out → Option Refusal
  | .refused r => some r
  | .next _ => none
  | .fault _ => none

/-- The fault, if there is one. -/
def faultOf : Out → Option Fault
  | .fault f => some f
  | .next _ => none
  | .refused _ => none

/-- The instruction decoded, if there is one. -/
def instrOf (raw : Raw) : Option Instr :=
  match decode raw with
  | .ok i => some i
  | .error _ => none

/-- The answer is a next state with property `p`. -/
def answers (o : Out) (p : State → Bool) : Bool := (nextOf o).any p

theorem exists_of_answers {o : Out} {p : State → Bool} (h : answers o p = true) : ∃ t, o = .next t ∧ p t = true := by
  cases o with
  | next t => exact ⟨t, rfl, h⟩
  | fault f => cases h
  | refused r => cases h

theorem eq_of_nextOf {o : Out} {t : State} (h : nextOf o = some t) : o = .next t := by
  cases o with
  | next s => cases h; rfl
  | fault f => cases h
  | refused r => cases h

theorem eq_of_faultOf {o : Out} {f : Fault} (h : faultOf o = some f) : o = .fault f := by
  cases o with
  | fault g => cases h; rfl
  | next s => cases h
  | refused r => cases h

theorem eq_of_refusalOf {o : Out} {r : Refusal} (h : refusalOf o = some r) : o = .refused r := by
  cases o with
  | refused q => cases h; rfl
  | next s => cases h
  | fault f => cases h

theorem eq_of_instrOf {raw : Raw} {i : Instr} (h : instrOf raw = some i) : decode raw = .ok i := by
  unfold instrOf at h
  split at h
  · cases h; assumption
  · cases h

/-! ## Bytes of the vectors -/

/-- "hi.txt". -/
def hiName : Bytes := [0x68#8, 0x69#8, 0x2E#8, 0x74#8, 0x78#8, 0x74#8]
/-- "Hello" and a line feed. -/
def hiFile : Bytes := [0x48#8, 0x65#8, 0x6C#8, 0x6C#8, 0x6F#8, 0x0A#8]
/-- The payload of vector H1. -/
def h1Payload : Bytes := [0x68#8, 0x69#8, 0x2E#8, 0x74#8, 0x78#8, 0x74#8, 0x00#8, 0x36#8, 0x20#8] ++ rep 0x00#8 119
/-- Vector H1. -/
def h1 : Bytes := [0x01#8, 0x00#8, 0xFF#8] ++ h1Payload ++ [0x98#8, 0x3D#8]
/-- Vector D1. -/
def d1 : Bytes :=
  [0x01#8, 0x01#8, 0xFE#8, 0x48#8, 0x65#8, 0x6C#8, 0x6C#8, 0x6F#8, 0x0A#8] ++ rep 0x1A#8 122 ++ [0xEE#8, 0x71#8]
/-- "a.bin". -/
def aName : Bytes := [0x61#8, 0x2E#8, 0x62#8, 0x69#8, 0x6E#8]
/-- Vector H3. -/
def h3 : Bytes :=
  [0x01#8, 0x00#8, 0xFF#8, 0x61#8, 0x2E#8, 0x62#8, 0x69#8, 0x6E#8, 0x00#8, 0x30#8, 0x20#8] ++ rep 0x00#8 120
    ++ [0xE1#8, 0x6C#8]
/-- "fw.bin". -/
def fwName : Bytes := [0x66#8, 0x77#8, 0x2E#8, 0x62#8, 0x69#8, 0x6E#8]
/-- "123456789". -/
def check : Bytes := [0x31#8, 0x32#8, 0x33#8, 0x34#8, 0x35#8, 0x36#8, 0x37#8, 0x38#8, 0x39#8]
/-- `n` times "a". -/
def aaa (n : Nat) : Bytes := rep 0x61#8 n

/-! ## States of the vectors -/

/-- P1 line 1: just after START("hi.txt", "Hello\n"). -/
def hi : State :=
  { State.reset with
    name := hiName, pkt := [h1, d1], count := 2#32, total := 6#32, sessionActive := true, subscribed := true }

/-- The state of P1 with SENDING = 1 at cursor `c` and with `w` bytes acknowledged. -/
def hiAt (c w : Word) : State := { hi with sending := true, cursor := c, written := w }

/-- Just after START("a.bin", empty), the header acknowledged (E5 #2). -/
def aAt1 : State :=
  { State.reset with
    name := aName, pkt := [h3], count := 1#32, cursor := 1#32, sessionActive := true, subscribed := true, sending := true }

/-- A state of 95_test_vectors.md 2.4: "fw.bin", n = 3, s, c and prev as given; PKT holds stand-ins for the frames. -/
def fw (s : Bool) (c w : Word) (prev : Option Byte) : State :=
  { State.reset with
    name := fwName, pkt := [[0xA0#8], [0xA1#8], [0xA2#8]], count := 3#32, total := 2000#32, sessionActive := true
    subscribed := true, sending := s, cursor := c, written := w
    prevValid := prev.isSome, prevByte := prev.getD 0x00#8 }

/-- P1 just after the transfer's end. -/
def hiClosed : State :=
  { hi with
    cursor := 2#32, written := 6#32, sessionActive := false, subscribed := false, finished := true
    prevValid := true, prevByte := 0x06#8, closeReason := .finalAck
    resultValid := true, resultName := hiName, resultTotal := 6#32, resultWritten := 6#32 }

/-! ## Ill-formed terms are refused by the check -/

theorem test_wf_rxOther : ([0x43#8, 0x06#8, 0x15#8, 0x18#8].all fun b => !(Instr.rxOther b).wf) = true := by decide
theorem test_wf_crc_range : (Instr.crc check 5 5 0).wf = false := by decide
theorem test_wf_crc_seed : (Instr.crc check 0 9 0x10000).wf = false := by decide
theorem test_wf_rxChunk_empty : (Instr.rxChunk []).wf = false := by decide
theorem test_wf_soh128_length : (Instr.soh128 1#8 (rep 0#8 127)).wf = false := by decide +kernel
theorem test_wf_soh128_is_eos : (Instr.soh128 0#8 (rep 0#8 128)).wf = false := by decide +kernel
theorem test_wf_stx1024_length : (Instr.stx1024 1#8 (rep 0#8 1025)).wf = false := by decide +kernel

/-! ## Decoding: words written out from 30_encoding.md -/

/-- The byte codes of R71, bit by bit. -/
theorem test_decode_rx :
    [0b01000011#8, 0b00000110#8, 0b00010101#8, 0b00011000#8, 0b01100011#8].map (fun b => instrOf (.rxByte b))
      = [some .rxC, some .rxAck, some .rxNak, some .rxCa, some (.rxOther 0x63#8)] := by decide

/-- The command codes of R85, bit by bit. -/
theorem test_decode_host :
    [instrOf (.hostCmd 0b00000001#8 [.bytes check, .nat 3, .nat 6, .nat 0x9752]),
      instrOf (.hostCmd 0b00000010#8 [.bytes hiName, .nat 6]), instrOf (.hostCmd 0b00000011#8 [.bytes hiFile]),
      instrOf (.hostCmd 0b00010000#8 [.bytes hiName, .bytes hiFile]), instrOf (.hostCmd 0b00010001#8 []),
      instrOf .resetSignal, instrOf (.hostCmd 0b00000101#8 [])]
      = [some (.crc check 3 6 0x9752), some (.buildHeader hiName 6), some (.buildData hiFile),
        some (.start hiName hiFile), some .abort, some .reset, none] := by decide

/-- The channel event codes of R86, bit by bit. -/
theorem test_decode_chan :
    [instrOf (.chanEvt 0b00100000#8 [.bytes [0x43#8, 0x43#8]]), instrOf (.chanEvt 0b00100001#8 [.bit true]),
      instrOf (.chanEvt 0b00100001#8 [.bit false]), instrOf (.chanEvt 0b00100010#8 [])]
      = [some (.rxChunk [0x43#8, 0x43#8]), some .writeDoneOk, some .writeDoneFail, none] := by decide

/-- Vector H1 is the frame SOH128 with sequence 0; the fixed outputs EOS and EOT. -/
theorem test_decode_tx :
    [instrOf (.txBytes h1), instrOf (.txBytes ([0x01#8, 0x00#8, 0xFF#8] ++ rep 0x00#8 130)), instrOf (.txBytes [0x04#8])]
      = [some (.soh128 0x00#8 h1Payload), some .eos, some .eot] := by decide +kernel

/-- Vector D4, data_1: STX, sequence 1, 1024 bytes 0xFF, CRC C0 84. -/
theorem test_decode_stx1024 :
    instrOf (.txBytes ([0x02#8, 0x01#8, 0xFE#8] ++ rep 0xFF#8 1024 ++ [0xC0#8, 0x84#8]))
      = some (.stx1024 0x01#8 (rep 0xFF#8 1024)) := by decide +kernel

/-- Vector D1 with one bit of its checksum, and one of its complement, turned over (R73). -/
theorem test_decode_tx_refused :
    [instrOf (.txBytes (d1.take 132 ++ [0x70#8])), instrOf (.txBytes (d1.take 2 ++ [0xFF#8] ++ d1.drop 3)),
      instrOf (.txBytes [0x03#8])] = [none, none, none] := by decide +kernel

/-- Table words. -/
theorem test_table_words :
    [decodeTableWord 8 0x43, decodeTableWord 8 0x11, decodeTableWord 16 0x121, decodeTableWord 16 0x021,
      decodeTableWord 8 0x20, decodeTableWord 8 0x04]
      = [some .rxC, some .abort, some .writeDoneOk, some .writeDoneFail, some (.rxChunk [0#8]), some .eot] := by decide

/-! ## One step each -/

/-- Q1, Q2. -/
theorem test_rxC_header :
    answers (exec .rxC (fw false 0#32 0#32 none)) (fun t => t.tx == [[0xA0#8]] && t.sending && t.status == 0x00430037#32)
      = true := by decide
theorem test_rxC_debounce :
    answers (exec .rxC (fw true 1#32 0#32 (some 0x43#8))) (fun t => t == fw true 1#32 0#32 (some 0x43#8)) = true := by decide

/-- Q12, Q14. -/
theorem test_rxAck_last :
    answers (exec .rxAck (fw true 2#32 1024#32 (some 0x06#8)))
      (fun t => t.tx == [[0x04#8]] && t.written == 2000#32 && t.cursor == 3#32) = true := by decide
theorem test_rxAck_ends_session :
    answers (exec .rxAck (fw true 3#32 2000#32 (some 0x15#8)))
      (fun t => t.tx == [] && !t.sending && !t.sessionActive && t.subscribed && t.hostOut == []) = true := by decide

/-- Q5, Q13. -/
theorem test_rxNak_before_C :
    answers (exec .rxNak (fw false 0#32 0#32 none)) (fun t => t.tx == [[0xA0#8]] && !t.sending) = true := by decide
theorem test_rxNak_eot :
    answers (exec .rxNak (fw true 3#32 2000#32 (some 0x06#8))) (fun t => t.tx == [[0x04#8]] && t.cursor == 3#32) = true := by
  decide

/-- Q19. -/
theorem test_rxCa_mid :
    answers (exec .rxCa (fw true 2#32 1024#32 (some 0x06#8)))
      (fun t => t.hostOut == [.done ⟨fwName, 2000#32, 1024#32⟩] && t.closeReason == .cancel && !t.subscribed) = true := by
  decide

/-- Q20. -/
theorem test_rxOther :
    answers (exec (.rxOther 0x63#8) (fw true 2#32 1024#32 (some 0x06#8)))
      (fun t => t == fw true 2#32 1024#32 (some 0x63#8)) = true := by decide

/-- K10, K12. -/
theorem test_crc_check :
    answers (exec (.crc check 0 9 0) State.reset) (fun t => t.hostOut == [.crcValue 0x31C3#16]) = true := by decide +kernel
theorem test_crc_seeded :
    answers (exec (.crc check 3 6 0x9752) State.reset) (fun t => t.hostOut == [.crcValue 0x31C3#16]) = true := by
  decide +kernel

/-- H1, H12 (W17). -/
theorem test_buildHeader :
    answers (exec (.buildHeader hiName 6) State.reset) (fun t => t.hostOut == [.header h1]) = true := by decide +kernel
theorem test_buildHeader_overflow :
    answers (exec (.buildHeader (aaa 123) 1000) State.reset)
      (fun t => t.hostOut == [.commandFault .headerOverflow] && t.faultCause == .none) = true := by decide +kernel

/-- D1. -/
theorem test_buildData :
    answers (exec (.buildData hiFile) State.reset) (fun t => t.hostOut == [.data [d1]]) = true := by decide +kernel

/-- P1 line 1, W14. -/
theorem test_start :
    answers (exec (.start hiName hiFile) State.reset) (fun t => t == hi && t.status == 0x00000003#32) = true := by
  decide +kernel
theorem test_start_long_name :
    answers (exec (.start (aaa 124) [0x61#8]) State.reset)
      (fun t => t.status == 0x00002000#32 && t.hostOut == [.error .nameTooLong]) = true := by decide +kernel

/-- W11. -/
theorem test_abort :
    answers (exec .abort hi) (fun t => t.finished && !t.subscribed && t.closeReason == .aborted && t.hostOut == []) = true := by
  decide

/-- W13. -/
theorem test_reset :
    answers (exec .reset { hi with txBusy := true })
      (fun t => t == State.reset && refusalOf (exec .writeDoneOk t) == some .noWriteOutstanding) = true := by decide

/-- W1, W6. -/
theorem test_rxChunk_held :
    answers (exec (.rxChunk [0x06#8]) { hi with txBusy := true }) (fun t => t.rxq == [0x06#8] && !t.byteReady) = true := by
  decide
theorem test_rxChunk_dropped : nextOf (exec (.rxChunk [0x43#8]) State.reset) = some State.reset := by decide

/-- After Q1 and its wdone ok. -/
theorem test_writeDoneOk :
    answers (exec .writeDoneOk { fw true 0#32 0#32 (some 0x43#8) with txBusy := true }) (fun t => t.status == 0x00430027#32)
      = true := by decide

/-- W4, W5. -/
theorem test_writeDoneFail :
    answers (exec .writeDoneFail { fw true 1#32 0#32 (some 0x43#8) with txBusy := true, rxq := [0x06#8] })
      (fun t => t.status == 0x0043502E#32 && t.rxq == [] && t.hostOut == [.error .ioError]) = true := by decide
theorem test_writeDoneFail_after_abort :
    answers (exec .writeDoneFail { hi with txBusy := true, finished := true, subscribed := false, closeReason := .aborted })
      (fun t => !t.txBusy && t.hostOut == [] && t.faultCause == .none) = true := by decide

/-- H1, D4, the fixed outputs. -/
theorem test_soh128 : answers (exec (.soh128 0x00#8 h1Payload) State.reset) (fun t => t.tx == [h1] && t.txBusy) = true := by
  decide +kernel
theorem test_stx1024 :
    answers (exec (.stx1024 0x01#8 (rep 0xFF#8 1024)) State.reset)
      (fun t => t.tx.map (·.take 4) == [[0x02#8, 0x01#8, 0xFE#8, 0xFF#8]] && t.txBusy) = true := by decide +kernel
theorem test_eot : answers (exec .eot State.reset) (fun t => t.tx == [[0x04#8]] && t.txBusy) = true := by decide
theorem test_eos :
    answers (exec .eos State.reset) (fun t => t.tx == [[0x01#8, 0x00#8, 0xFF#8] ++ rep 0x00#8 130]) = true := by decide +kernel

/-- W18. -/
theorem test_read_result : faultOf (step { State.reset with inbox := [.read .resultWritten] }) = some .resultNotValid := by
  decide

/-- P1 line 2 as a script line: the chunk and the block's turn. -/
theorem test_script :
    scriptInputs 0 [.rx .c] = [.chan 0x20#8 [.bytes [0x43#8]], .turn] := by decide

/-! ## States with the invariants -/

theorem h1_isFrame : isFrame h1 = true := by decide +kernel
theorem d1_isFrame : isFrame d1 = true := by decide +kernel
theorem h3_isFrame : isFrame h3 = true := by decide +kernel

theorem hi_frames : ∀ f ∈ [h1, d1], isFrame f = true := by simp [h1_isFrame, d1_isFrame]
theorem a_frames : ∀ f ∈ [h3], isFrame f = true := by simp [h3_isFrame]

/-- P1 line 1. -/
theorem hi_inv : hi.Inv := by constructor <;> first | exact hi_frames | decide +kernel
/-- P1 lines 2 and 3, with two bytes waiting: the header is out and an ACK comes next. -/
theorem hi_waiting_inv : { hiAt 0#32 0#32 with rxq := [0x06#8, 0x43#8] }.Inv := by
  constructor <;> first | exact hi_frames | decide +kernel
/-- P1 line 5 before its byte step: the first data packet is about to be sent. -/
theorem hi_data_inv : { hiAt 1#32 0#32 with rxq := [0x43#8] }.Inv := by
  constructor <;> first | exact hi_frames | decide +kernel
/-- P1 line 7 before its byte step: the last data packet is about to be acknowledged. -/
theorem hi_lastAck_inv : { hiAt 1#32 0#32 with rxq := [0x06#8] }.Inv := by
  constructor <;> first | exact hi_frames | decide +kernel
/-- P1 line 7: EOT is out, its write outstanding, with a byte waiting. -/
theorem hi_eot_inv : { hiAt 2#32 6#32 with txBusy := true, rxq := [0x06#8], inbox := [.chan 0x21#8 [.bit false]] }.Inv := by
  constructor <;> first | exact hi_frames | decide +kernel
/-- P1 line 12 done, with an ACK waiting: the session is over and the transfer is about to close. -/
theorem hi_final_inv : { hiAt 2#32 6#32 with sending := false, sessionActive := false, rxq := [0x06#8] }.Inv := by
  constructor <;> first | exact hi_frames | decide +kernel
/-- P1's end. -/
theorem hiClosed_inv : hiClosed.Inv := by constructor <;> first | exact hi_frames | decide +kernel
/-- E5 #2, with a C waiting. -/
theorem aAt1_inv : { aAt1 with rxq := [0x43#8] }.Inv := by constructor <;> first | exact a_frames | decide +kernel
/-- The invariants say nothing about the inbox. -/
theorem inv_input {s : State} (h : s.Inv) (inputs : List Input) : { s with inbox := inputs }.Inv := by
  cases h
  constructor <;> assumption

/-! ## Witnesses -/

/-- HostCommandCodes: a reserved code (W16) at the edges of the reserved ranges. -/
theorem witness_reserved_command :
    (∀ op ∈ [0x00#8, 0x04#8, 0x05#8, 0x0F#8, 0x12#8, 0xFF#8], op ∉ [0x01#8, 0x02#8, 0x03#8, 0x10#8, 0x11#8])
    ∧ ∃ s : State, s.sendReq = none ∧ s.inbox = .host 0x05#8 [] :: [] :=
  ⟨by decide, { State.reset with inbox := [.host 0x05#8 []] }, rfl, rfl⟩

/-- DecodeEncodeRoundTrip: operands at the edges the encodings admit. -/
theorem witness_wf :
    ([.rxOther 0x00#8, .crc check 9 0 0xFFFF, .rxChunk [0x00#8], .soh128 0x01#8 (rep 0#8 128), .soh128 0xFF#8 (rep 0xFF#8 128),
      .stx1024 0x00#8 (rep 0#8 1024)].all Instr.wf) = true := by decide +kernel

/-- EncodeDecodeIsCanonical: both alternatives. -/
theorem witness_decode :
    decode (.hostCmd 0x01#8 [.bytes check, .nat 0, .nat 9]) = .ok (.crc check 0 9 0)
    ∧ decode (.chanEvt 0x21#8 [.bit false]) = .ok .writeDoneFail := ⟨rfl, rfl⟩

/-- CrcCommand: in range up to the last byte and the greatest seed, and one beyond each. -/
theorem witness_crc_operands :
    3 + 6 ≤ check.length ∧ 0xFFFF ≤ 0xFFFF ∧ check.length < 5 + 5 ∧ 0xFFFF < 0x10000 := by decide

/-- CrcIsIncremental: K9 and K12. -/
theorem witness_crc_incremental : (0 : Nat) ≤ 3 ∧ 3 ≤ 9 ∧ 9 ≤ check.length := by decide

/-- FrameLayout: both payload lengths. -/
theorem witness_frame_lengths : h1Payload.length = 128 ∧ (rep 0xFF#8 1024).length = 1024 := by decide +kernel

/-- HeaderChecksInOrder, BuildHeaderCommand, StartCommand: H18, H14, H15, H13, H12 and H11 meet the five clauses. -/
theorem witness_header_checks :
    4294967295 < 4294967296
    ∧ (0 ≤ 4294967295 ∧ ([] : Bytes) = [])
    ∧ (1 ≤ 4294967295 ∧ 0x00#8 ∈ [0x61#8, 0x00#8, 0x62#8])
    ∧ (aaa 124 ≠ [] ∧ 0x00#8 ∉ aaa 124 ∧ 123 < (aaa 124).length)
    ∧ (aaa 123 ≠ [] ∧ 0x00#8 ∉ aaa 123 ∧ (aaa 123).length ≤ 123 ∧ 128 < (aaa 123).length + 1 + (dec 1000).length + 1)
    ∧ ((aaa 123).length ≤ 123 ∧ (aaa 123).length + 1 + (dec 999).length + 1 ≤ 128) := by decide +kernel

/-- HeaderPayloadLayout, HeaderParsesBack, AfterSuccessfulStart, StartUpHazards, BuiltFramesAreConsistent: accepted names
and sizes at the edges, H11, H16, H3 and H1. -/
theorem witness_header_accepted :
    headerFault (aaa 123) 999 = none ∧ headerFault (aaa 116) 4294967295 = none ∧ headerFault aName 0 = none
    ∧ headerFault hiName hiFile.length = none := by decide +kernel

/-- BuildHeaderCommand, StartCommand: a fault of each check, H18, H14, H13 and H17. -/
theorem witness_header_faults :
    headerFault (aaa 1) 4294967296 = some .fileTooLarge ∧ headerFault [] 0 = some .nameInvalid
    ∧ headerFault (aaa 124) 3 = some .nameTooLong ∧ headerFault (aaa 117) 4294967295 = some .headerOverflow := by decide +kernel

/-- DecimalSpelling: the least and the greatest size. -/
theorem witness_decimal : (dec 0).head? = some 0x30#8 ∧ 4294967295 ≤ 4294967295 ∧ (dec 4294967295).length = 10 := by
  decide +kernel

/-- ChunkLengths: the empty file; a full chunk and the last one, of 1 byte (1025) and of 1024 bytes (1024). -/
theorem witness_chunks :
    chunkCount 0 = 0 ∧ 1 ≤ 1 ∧ 1 < chunkCount 1025 ∧ 2 = chunkCount 1025 ∧ 1 = chunkCount 1024 ∧ rep 0#8 1025 ≠ [] := by
  decide +kernel

/-- BuildDataCommand: a file over the limit (D6), and files of 128 and 129 bytes in it. -/
theorem witness_buildData :
    4294967295 < (rep 0#8 4294967296).length ∧ (rep 0#8 128).length ≤ 4294967295 ∧ (rep 0#8 129).length ≤ 4294967295
    ∧ (∃ fs : List Bytes, exec (.buildData (rep 0#8 1)) State.reset = .next { State.reset with hostOut := [.data fs] }
        ∧ 1 ≤ 1 ∧ 1 ≤ fs.length) := by
  refine ⟨by rw [List.length_replicate]; decide, by decide +kernel, by decide +kernel, dataFrames (rep 0#8 1), rfl, ?_, ?_⟩
  · decide
  · decide +kernel

/-- BuiltFramesAreConsistent: each of the three sources of a frame. -/
theorem witness_built_frames :
    (∃ f, buildHeader hiName 6 = .ok f) ∧ dataFrames hiFile ≠ [] ∧ eosFrame = eosFrame :=
  ⟨⟨_, rfl⟩, by simp [dataFrames, chunkCount, hiFile, Config.longPayload, List.range_succ], rfl⟩

/-- StartCommand: W8, W9, W14 and P1 line 1. -/
theorem witness_start :
    hi.subscribed = true ∧ ({ State.reset with txBusy := true } : State).txBusy = true
    ∧ (State.reset.subscribed = false ∧ State.reset.txBusy = false ∧ headerFault (aaa 124) 3 = some .nameTooLong)
    ∧ (hiClosed.subscribed = false ∧ hiClosed.txBusy = false ∧ headerFault hiName hiFile.length = none) := by decide +kernel

/-- AfterSuccessfulStart, StartUpHazards. -/
theorem witness_started :
    headerFault hiName hiFile.length = none ∧ ∃ t, exec (.start hiName hiFile) State.reset = .next t :=
  ⟨by decide +kernel, (exists_of_answers test_start).imp fun _ h => h.1⟩

/-- AbortCommand: W10, W11. -/
theorem witness_abort : State.reset.subscribed = false ∧ hi.subscribed = true := by decide

/-- RxCReaction: the three clauses, at CURSOR = COUNT and CURSOR = COUNT - 1. -/
theorem witness_rxC :
    ((fw false 3#32 2000#32 (some 0x43#8)).pkt.length = (fw false 3#32 2000#32 (some 0x43#8)).count.toNat
      ∧ (fw false 3#32 2000#32 (some 0x43#8)).count ≤ (fw false 3#32 2000#32 (some 0x43#8)).cursor)
    ∧ ((fw true 2#32 1024#32 none).cursor < (fw true 2#32 1024#32 none).count
      ∧ ¬((fw true 2#32 1024#32 none).prevValid = true ∧ (fw true 2#32 1024#32 none).prevByte = 0x43#8))
    ∧ ((fw true 2#32 1024#32 (some 0x43#8)).cursor < (fw true 2#32 1024#32 (some 0x43#8)).count
      ∧ (fw true 2#32 1024#32 (some 0x43#8)).prevValid = true
      ∧ (fw true 2#32 1024#32 (some 0x43#8)).prevByte = 0x43#8) := by decide

/-- RxAckReaction: its clauses, at the cursors 0, 1, COUNT - 1 and COUNT. -/
theorem witness_rxAck :
    ([0#32, 1#32, 2#32, 3#32].all fun c => (fw true c 0#32 none).pkt.length == (fw true c 0#32 none).count.toNat) = true
    ∧ ((fw false 3#32 0#32 none).sending = false ∧ (fw false 3#32 0#32 none).finished = false)
    ∧ (hiClosed.pkt.length = hiClosed.count.toNat ∧ hiClosed.sending = false ∧ hiClosed.finished = true)
    ∧ ((fw true 0#32 0#32 none).sending = true ∧ (fw true 0#32 0#32 none).cursor = 0#32)
    ∧ ([1#32, 2#32].all fun c => (fw true c 0#32 none).sending && (fw true c 0#32 none).cursor != 0#32
        && decide ((fw true c 0#32 none).cursor < (fw true c 0#32 none).count)) = true
    ∧ ((1 : Nat) + 1 < (fw true 1#32 0#32 none).count.toNat ∧ 2 + 1 = (fw true 2#32 0#32 none).count.toNat)
    ∧ ((fw true 3#32 0#32 none).sending = true ∧ (fw true 3#32 0#32 none).cursor ≠ 0#32
        ∧ (fw true 3#32 0#32 none).count ≤ (fw true 3#32 0#32 none).cursor) := by decide +kernel

/-- RxNakReaction: its clauses, on both sides of COUNT. -/
theorem witness_rxNak :
    (fw false 2#32 0#32 none).pkt.length = (fw false 2#32 0#32 none).count.toNat
    ∧ (fw false 2#32 0#32 none).cursor < (fw false 2#32 0#32 none).count
    ∧ (fw true 3#32 0#32 none).count ≤ (fw true 3#32 0#32 none).cursor ∧ (fw true 3#32 0#32 none).sending = true
    ∧ (fw false 3#32 0#32 none).sending = false := by decide

/-- RxCaReaction. -/
theorem witness_rxCa : hi.finished = false ∧ hiClosed.finished = true := by decide

/-- RxOtherReaction. -/
theorem witness_rxOther : (0x63#8 : Byte) ≠ 0x43#8 ∧ 0x63#8 ≠ 0x06#8 ∧ 0x63#8 ≠ 0x15#8 ∧ 0x63#8 ≠ (0x18#8 : Byte) := by decide

/-- RxChunkEvent, ChunkBoundariesDoNotMatter: W1, W6, W7. -/
theorem witness_rxChunk :
    ([] : Bytes) = [] ∧ [0x43#8] ≠ ([] : Bytes) ∧ hi.subscribed = true ∧ State.reset.subscribed = false := by decide

/-- WriteDoneOkEvent, WriteDoneFailEvent: W3, W4, W5. -/
theorem witness_writeDone :
    State.reset.txBusy = false
    ∧ (({ hi with txBusy := true } : State).txBusy = true ∧ ({ hi with txBusy := true } : State).finished = false)
    ∧ (({ hiClosed with txBusy := true } : State).txBusy = true ∧ ({ hiClosed with txBusy := true } : State).finished = true) := by
  decide

/-- OutboundRowsWrite. -/
theorem witness_outbound : h1Payload.length = 128 ∧ (rep 0x00#8 1024).length = 1024 := by decide +kernel

/-- StepRunsDecodedInput: its three clauses. -/
theorem witness_step_input :
    hi.sendReq = none
    ∧ (({ hi with inbox := [.host 0x11#8 []] } : State).inbox = .host 0x11#8 [] :: []
        ∧ decode (.hostCmd 0x11#8 []) = .ok .abort)
    ∧ (({ hi with inbox := [.chan 0x21#8 [.bit true]] } : State).inbox = .chan 0x21#8 [.bit true] :: []
        ∧ decode (.chanEvt 0x21#8 [.bit true]) = .ok .writeDoneOk)
    ∧ ({ hi with inbox := [.resetSignal] } : State).inbox = .resetSignal :: [] :=
  ⟨rfl, ⟨rfl, rfl⟩, ⟨rfl, rfl⟩, rfl⟩

/-- ByteStepEnabledExactly: with the turn given and with an empty inbox; enabled and holding (W1). -/
theorem witness_byte_step :
    ({ hi with inbox := [.turn], rxq := [0x43#8] } : State).inbox = .turn :: [] ∧ hi.inbox = []
    ∧ (({ hi with rxq := [0x43#8] } : State).subscribed = true ∧ ({ hi with rxq := [0x43#8] } : State).finished = false
        ∧ ({ hi with rxq := [0x43#8] } : State).txBusy = false ∧ ({ hi with rxq := [0x43#8] } : State).rxq = 0x43#8 :: [])
    ∧ ({ hi with rxq := [0x06#8], txBusy := true } : State).txBusy = true := by decide

/-- FetchWordRunsTableInstruction. -/
theorem witness_table_word :
    decodeTableWord 8 0x43 = some .rxC ∧ decodeTableWord 8 0x04 = some .eot
    ∧ decodeTableWord 16 0x121 = some .writeDoneOk := by decide

/-- HostReadsRegisters: its three clauses. -/
theorem witness_reads :
    (({ hi with inbox := [.read .cursor] } : State).inbox = .read .cursor :: [] ∧ hi.sendReq = none)
    ∧ (({ hiClosed with inbox := [.read .resultName] } : State).inbox = .read .resultName :: []
        ∧ hiClosed.resultValid = true ∧ hiClosed.sendReq = none)
    ∧ (({ hi with inbox := [.read .resultTotal] } : State).inbox = .read .resultTotal :: [] ∧ hi.resultValid = false) := by
  decide

/-- EveryStepKeepsInvariants, ReachableStatesSatisfyInvariants: a START after P1's end, and one from reset. -/
theorem witness_start_steps :
    ({ hiClosed with inbox := [.host 0x10#8 [.bytes hiName, .bytes hiFile]] }.Inv
      ∧ ∃ t, step { hiClosed with inbox := [.host 0x10#8 [.bytes hiName, .bytes hiFile]] } = .next t
          ∧ (t.pkt == [h1, d1] && t.subscribed) = true)
    ∧ Reachable hi := by
  have h : answers (step { State.reset with inbox := [.host 0x10#8 [.bytes hiName, .bytes hiFile]] }) (fun t => t == hi) = true := by
    decide +kernel
  obtain ⟨t, ht, he⟩ := exists_of_answers h
  have he : t = hi := by simpa using he
  exact ⟨⟨inv_input hiClosed_inv _, exists_of_answers (by decide +kernel)⟩, 1,
    [.host 0x10#8 [.bytes hiName, .bytes hiFile]], by simp only [runSteps, ht, he]⟩

/-- PhaseTableIsComplete, FinalStatesHaveAnOutcome: a running and a final state that succeeded. -/
theorem witness_phases :
    hi.Inv ∧ hi.subscribed = true ∧ hiClosed.Inv ∧ hiClosed.final = true ∧ hiClosed.succeeded = true :=
  ⟨hi_inv, rfl, hiClosed_inv, by decide, by decide⟩

/-- FinalStatesHaveAnOutcome: the outcomes ABORTED (W11) and FAULT (a START that faulted, W14; IO_ERROR, W4). -/
theorem witness_outcomes :
    ({ hi with finished := true, subscribed := false, closeReason := .aborted }.Inv
      ∧ { hi with finished := true, subscribed := false, closeReason := .aborted }.final = true)
    ∧ ({ hi with subscribed := false, faultCause := .nameTooLong }.Inv
      ∧ { hi with subscribed := false, faultCause := .nameTooLong }.final = true)
    ∧ ({ hi with finished := true, subscribed := false, faultCause := .ioError }.Inv
      ∧ { hi with finished := true, subscribed := false, faultCause := .ioError }.final = true) := by
  refine ⟨⟨?_, by decide⟩, ⟨?_, by decide⟩, ?_, by decide⟩ <;>
    constructor <;> first | exact hi_frames | decide +kernel

/-- OnlyInvalidResultReadsFault: a read of RESULT during a transfer. -/
theorem witness_fault :
    { hi with inbox := [.read .resultWritten] }.Inv
    ∧ step { hi with inbox := [.read .resultWritten] } = .fault .resultNotValid :=
  ⟨inv_input hi_inv _, eq_of_faultOf (by decide)⟩

/-- RefusedEventsExactly: W16, a channel event of the wrong shape, P6 line 9, W8, W3, W7. -/
theorem witness_refused :
    { hi with inbox := [.host 0x10#8 [.bytes [0x62#8], .bytes [0x00#8]]] }.Inv
    ∧ (∃ r, step { State.reset with inbox := [.host 0x05#8 []] } = .refused r)
    ∧ (∃ r, step { State.reset with inbox := [.chan 0x21#8 []] } = .refused r)
    ∧ (∃ r, step { State.reset with inbox := [.host 0x01#8 [.bytes check, .nat 5, .nat 5]] } = .refused r)
    ∧ (∃ r, step { hi with inbox := [.host 0x10#8 [.bytes [0x62#8], .bytes [0x00#8]]] } = .refused r)
    ∧ (∃ r, step { State.reset with inbox := [.chan 0x21#8 [.bit true]] } = .refused r)
    ∧ (∃ r, step { State.reset with inbox := [.chan 0x20#8 [.bytes []]] } = .refused r) :=
  ⟨inv_input hi_inv _, ⟨.notDecoded (.reservedCommand 0x05#8), eq_of_refusalOf (by decide)⟩,
    ⟨.notDecoded (.badOperands 0x21#8), eq_of_refusalOf (by decide)⟩,
    ⟨.crcOperands, eq_of_refusalOf (by decide)⟩, ⟨.startNotAllowed, eq_of_refusalOf (by decide)⟩,
    ⟨.noWriteOutstanding, eq_of_refusalOf (by decide)⟩, ⟨.emptyChunk, eq_of_refusalOf (by decide)⟩⟩

/-- WritesAreWholeAndOneAtATime, WritesAnswerInboundBytes, CursorMovesByAckOnly: P1 line 7 writes EOT and raises the
cursor, P1 line 5 writes D1, E5 #3 writes EOS. -/
theorem witness_writes :
    ({ hiAt 1#32 0#32 with rxq := [0x06#8] }.Inv ∧ ∃ t, step { hiAt 1#32 0#32 with rxq := [0x06#8] } = .next t
        ∧ (t.tx == [[0x04#8]] && t.cursor == 2#32) = true)
    ∧ ({ hiAt 1#32 0#32 with rxq := [0x43#8] }.Inv
        ∧ ∃ t, step { hiAt 1#32 0#32 with rxq := [0x43#8] } = .next t ∧ (t.tx == [d1]) = true)
    ∧ ({ aAt1 with rxq := [0x43#8] }.Inv
        ∧ ∃ t, step { aAt1 with rxq := [0x43#8] } = .next t ∧ (t.tx == [eosFrame]) = true) :=
  ⟨⟨hi_lastAck_inv, exists_of_answers (by decide +kernel)⟩, ⟨hi_data_inv, exists_of_answers (by decide +kernel)⟩,
    ⟨aAt1_inv, exists_of_answers (by decide +kernel)⟩⟩

/-- NoByteHandledDuringWrite, FaultIsReportedWhenRecorded: the write of EOT fails with a byte waiting; IO_ERROR is
recorded. -/
theorem witness_write_fails :
    { hiAt 2#32 6#32 with txBusy := true, rxq := [0x06#8], inbox := [.chan 0x21#8 [.bit false]] }.Inv
    ∧ { hiAt 2#32 6#32 with txBusy := true, rxq := [0x06#8], inbox := [.chan 0x21#8 [.bit false]] }.nextInstr
        = some .writeDoneFail
    ∧ ∃ t, step { hiAt 2#32 6#32 with txBusy := true, rxq := [0x06#8], inbox := [.chan 0x21#8 [.bit false]] } = .next t
        ∧ (t.faultCause == .ioError && t.rxq == [] && !t.subscribed) = true :=
  ⟨hi_eot_inv, by decide, exists_of_answers (by decide)⟩

/-- FaultIsReportedWhenRecorded, the other causes: W15. -/
theorem witness_start_fault :
    { hiClosed with inbox := [.host 0x10#8 [.bytes [], .bytes []]] }.Inv
    ∧ ∃ t, step { hiClosed with inbox := [.host 0x10#8 [.bytes [], .bytes []]] } = .next t
        ∧ (t.faultCause == .nameInvalid) = true :=
  ⟨inv_input hiClosed_inv _, exists_of_answers (by decide)⟩

/-- PacketStoreIsWrittenByStartOnly: a byte step that is neither. -/
theorem witness_packet_store :
    { hiAt 0#32 0#32 with rxq := [0x06#8, 0x43#8] }.Inv
    ∧ { hiAt 0#32 0#32 with rxq := [0x06#8, 0x43#8] }.nextInstr = some .rxAck
    ∧ ∃ t, step { hiAt 0#32 0#32 with rxq := [0x06#8, 0x43#8] } = .next t ∧ (t.cursor == 1#32) = true :=
  ⟨hi_waiting_inv, by decide, exists_of_answers (by decide)⟩

/-- FinishedTransferIsFrozen: a late chunk after P1's end (E8 #6). -/
theorem witness_finished :
    hiClosed.Inv ∧ hiClosed.finished = true ∧ hiClosed.nextInstr = none ∧ ∃ t, step hiClosed = .next t ∧ (t == hiClosed) = true :=
  ⟨hiClosed_inv, rfl, by decide, exists_of_answers (by decide)⟩

/-- DoneIsDeliveredByClosing, FinalAckAtTheEndIsSuccess: P1 line 14. -/
theorem witness_closing :
    { hiAt 2#32 6#32 with sending := false, sessionActive := false, rxq := [0x06#8] }.Inv
    ∧ (hiAt 2#32 6#32).cursor = (hiAt 2#32 6#32).count ∧ (hiAt 2#32 6#32).subscribed = true
    ∧ (hiAt 2#32 6#32).txBusy = false
    ∧ (∃ t, step { hiAt 2#32 6#32 with sending := false, sessionActive := false, rxq := [0x06#8] } = .next t
        ∧ (t.hostOut == [.done ⟨hiName, 6#32, 6#32⟩]) = true)
    ∧ ∃ t, exec .rxAck { hiAt 2#32 6#32 with sending := false, sessionActive := false, rxq := [0x06#8] } = .next t
        ∧ t.finished = true :=
  ⟨hi_final_inv, rfl, rfl, rfl, exists_of_answers (by decide), exists_of_answers (by decide)⟩

/-- SmoothTransferSucceeds: from a closed block, an empty file (E5) and a small one. -/
theorem witness_smooth :
    ({ hiClosed with inbox := smoothTransfer aName [] (chunkCount 0) }.Inv ∧ headerFault aName 0 = none)
    ∧ ({ hiClosed with inbox := smoothTransfer hiName hiFile (chunkCount hiFile.length) }.Inv
        ∧ headerFault hiName hiFile.length = none)
    ∧ hiClosed.subscribed = false ∧ hiClosed.txBusy = false :=
  ⟨⟨inv_input hiClosed_inv _, by decide +kernel⟩, ⟨inv_input hiClosed_inv _, by decide +kernel⟩, rfl, rfl⟩

end Sys2Proof.Tests
end

section
/-! Proofs: what the head of the inbox makes the next step run (00_scope.md R4; 60_exceptions.md R208). -/

namespace Sys2Proof.Machine

/-- A host command at the head of the inbox is taken off and run. -/
theorem nextInput_host {s : State} {op : Byte} {args : List Operand} {rest : List Input}
    (h : s.inbox = .host op args :: rest) : nextInput s = .run (.hostCmd op args) { s with inbox := rest } := by
  simp [nextInput, h]

/-- A channel event at the head of the inbox is taken off and run. -/
theorem nextInput_chan {s : State} {ev : Byte} {args : List Operand} {rest : List Input}
    (h : s.inbox = .chan ev args :: rest) : nextInput s = .run (.chanEvt ev args) { s with inbox := rest } := by
  simp [nextInput, h]

/-- The RESET signal at the head of the inbox is taken off and run. -/
theorem nextInput_resetSignal {s : State} {rest : List Input}
    (h : s.inbox = .resetSignal :: rest) : nextInput s = .run .resetSignal { s with inbox := rest } := by
  simp [nextInput, h]

/-- With no outbound row waiting, a step whose next input is the encoded form `raw` is `exec` of what `raw` decodes to. -/
theorem step_of_nextInput {s t : State} {raw : Raw} {i : Instr} (hs : s.sendReq = none)
    (hn : nextInput s = .run raw t) (hd : decode raw = .ok i) : step s = exec i t :=
  step_of_run ((fetch_of_noSend hs).trans hn) hd

/-- Settles O39: the entry at the head of the inbox is what the step fetches, and its decoding is what the step runs. -/
theorem stepRunsDecodedInput : Obligations.StepRunsDecodedInput := by
  intro s rest i hs
  refine ⟨fun op args hin hd => ?host, fun ev args hin hd => ?chan, fun hin => ?reset⟩
  case host => exact step_of_nextInput hs (nextInput_host hin) hd
  case chan => exact step_of_nextInput hs (nextInput_chan hin) hd
  case reset => exact step_of_nextInput hs (nextInput_resetSignal hin) rfl

end Sys2Proof.Machine
end

section
/-! Proofs: everything an instruction can do when it answers a next state, said once for all of them. -/

namespace Sys2Proof.Machine

/-- What an instruction of the block does, case by case: `Effect s i t` holds when `i`, run in `s`, can answer `t`. Each
case carries the guards under which its rule applies; `exec_effect` ties it to the model. -/
inductive Effect (s : State) : Instr → State → Prop
  /-- CRC tells the host its outcome (60_exceptions.md R202). -/
  | crcTold {buf : Bytes} {start len seed : Nat} {o : HostOut} (ho : ∀ r, o ≠ .done r) :
      Effect s (.crc buf start len seed) (emit o s)
  /-- BUILD_HEADER tells the host its outcome (60_exceptions.md R202). -/
  | headerTold {name : Bytes} {size : Nat} {o : HostOut} (ho : ∀ r, o ≠ .done r) :
      Effect s (.buildHeader name size) (emit o s)
  /-- BUILD_DATA tells the host its outcome (60_exceptions.md R202). -/
  | dataTold {buf : Bytes} {o : HostOut} (ho : ∀ r, o ≠ .done r) : Effect s (.buildData buf) (emit o s)
  /-- START with a name or size the framer rejects (42_sequencer.md R150). -/
  | startRejected {name file : Bytes} {c : FaultCause} (hsub : s.subscribed = false) (hbusy : s.txBusy = false)
      (hc : headerFault name file.length = some c) : Effect s (.start name file) (startFault c s)
  /-- START with an accepted header (42_sequencer.md R150). -/
  | started {name file : Bytes} (hsub : s.subscribed = false) (hbusy : s.txBusy = false)
      (hc : headerFault name file.length = none) :
      Effect s (.start name file)
        (beginTransfer name file (frame Config.markerShort 0#8 (hdrPayload name file.length) :: dataFrames file) s)
  /-- ABORT of a block that is not subscribed (42_sequencer.md R167). -/
  | abortIgnored (hsub : s.subscribed = false) : Effect s .abort s
  /-- ABORT of a running transfer (42_sequencer.md R167). -/
  | aborted (hsub : s.subscribed = true) : Effect s .abort { endTransfer s with closeReason := .aborted }
  /-- RESET (70_reset_and_hazards.md R230). -/
  | reset : Effect s .reset { State.reset with inbox := s.inbox, tx := s.tx, hostOut := s.hostOut }
  /-- RX_CHUNK of a subscribed block (42_sequencer.md R163). -/
  | chunkQueued {bytes : Bytes} (hne : bytes ≠ []) (hsub : s.subscribed = true) :
      Effect s (.rxChunk bytes) { s with rxq := s.rxq ++ bytes }
  /-- RX_CHUNK of a block that is not subscribed (42_sequencer.md R162). -/
  | chunkDropped {bytes : Bytes} (hne : bytes ≠ []) (hsub : s.subscribed = false) : Effect s (.rxChunk bytes) s
  /-- WRITE_DONE with ok = 1 (42_sequencer.md R168). -/
  | writeDone (hbusy : s.txBusy = true) : Effect s .writeDoneOk { s with txBusy := false }
  /-- WRITE_DONE with ok = 0 after the transfer has ended (42_sequencer.md R169). -/
  | writeFailedLate (hbusy : s.txBusy = true) (hfin : s.finished = true) :
      Effect s .writeDoneFail { s with txBusy := false }
  /-- WRITE_DONE with ok = 0 in a running transfer (42_sequencer.md R169). -/
  | writeFailed (hbusy : s.txBusy = true) (hfin : s.finished = false) :
      Effect s .writeDoneFail (takeFault .ioError (endTransfer { s with txBusy := false }))
  /-- C past the last packet (42_sequencer.md R155). -/
  | cEos (hc : s.count ≤ s.cursor) : Effect s .rxC (notePrev Config.byteC (txWrite eosFrame s))
  /-- C that asks for the packet at the cursor (42_sequencer.md R155). -/
  | cSends {f : Bytes} (hc : s.cursor < s.count) (hprev : s.prevIsC = false) (hf : s.pkt[s.cursor.toNat]? = some f) :
      Effect s .rxC (notePrev Config.byteC { txWrite f s with sending := true })
  /-- C that follows a C (42_sequencer.md R155). -/
  | cDebounced (hc : s.cursor < s.count) (hprev : s.prevIsC = true) : Effect s .rxC (notePrev Config.byteC s)
  /-- ACK with SENDING = 0 (42_sequencer.md R156). -/
  | ackCloses (hsend : s.sending = false) : Effect s .rxAck (notePrev Config.byteAck (close .finalAck s))
  /-- ACK of the header (42_sequencer.md R156). -/
  | ackHeader (hsend : s.sending = true) (hcur : s.cursor = 0#32) :
      Effect s .rxAck (notePrev Config.byteAck { s with cursor := 1#32 })
  /-- ACK of a data packet, answered by the next packet or EOT (42_sequencer.md R156, R157). -/
  | ackData {w : Bytes} (hsend : s.sending = true) (hcur : s.cursor ≠ 0#32) (hc : s.cursor < s.count)
      (hw : w = eotString ∨ s.pkt[(s.cursor + 1#32).toNat]? = some w) :
      Effect s .rxAck (notePrev Config.byteAck (txWrite w { s with
        written := BitVec.ofNat 32 (min (s.cursor.toNat * Config.ackStride) s.total.toNat)
        cursor := s.cursor + 1#32 }))
  /-- ACK of EOT (42_sequencer.md R156). -/
  | ackEot (hsend : s.sending = true) (hcur : s.cursor ≠ 0#32) (hc : s.count ≤ s.cursor) :
      Effect s .rxAck (notePrev Config.byteAck { s with sending := false, sessionActive := false })
  /-- NAK that gets the packet at the cursor, or EOT, once more (42_sequencer.md R158). -/
  | nakResends {w : Bytes} (hw : w = eotString ∨ s.pkt[s.cursor.toNat]? = some w) :
      Effect s .rxNak (notePrev Config.byteNak (txWrite w s))
  /-- NAK with nothing to send (42_sequencer.md R158). -/
  | nakIgnored (hsend : s.sending = false) (hc : s.count ≤ s.cursor) : Effect s .rxNak (notePrev Config.byteNak s)
  /-- CA (42_sequencer.md R159). -/
  | caCloses : Effect s .rxCa (notePrev Config.byteCa (close .cancel s))
  /-- Any other control byte (42_sequencer.md R160). -/
  | otherByte {b : Byte} : Effect s (.rxOther b) (notePrev b s)
  /-- An outbound row run by itself (log 5). -/
  | wroteRow {i : Instr} {w : Bytes} (hi : i.format = .outbound) (hw : encode i = .txBytes w) : Effect s i (txWrite w s)

section
variable {s t : State}

theorem execCrc_effect {buf : Bytes} {start len seed : Nat} (h : execCrc buf start len seed s = .next t) :
    Effect s (.crc buf start len seed) t := by
  unfold execCrc at h
  split at h
  · cases h
  · cases h; exact .crcTold nofun

theorem execBuildHeader_effect {name : Bytes} {size : Nat} (h : execBuildHeader name size s = .next t) :
    Effect s (.buildHeader name size) t := by
  unfold execBuildHeader at h
  split at h <;> cases h <;> exact .headerTold nofun

theorem execBuildData_effect {buf : Bytes} (h : execBuildData buf s = .next t) : Effect s (.buildData buf) t := by
  unfold execBuildData at h
  split at h <;> cases h <;> exact .dataTold nofun

theorem execStart_effect {name file : Bytes} (h : execStart name file s = .next t) :
    Effect s (.start name file) t := by
  unfold execStart at h
  split at h
  · cases h
  · next hidle =>
    obtain ⟨hsub, hbusy⟩ : s.subscribed = false ∧ s.txBusy = false := by simpa using hidle
    cases hc : headerFault name file.length with
    | some c =>
      rw [buildPackets_of_fault hc] at h
      cases h; exact .startRejected hsub hbusy hc
    | none =>
      rw [buildPackets_of_accepted hc] at h
      cases h; exact .started hsub hbusy hc

theorem execAbort_effect (h : execAbort s = .next t) : Effect s .abort t := by
  unfold execAbort at h
  split at h
  · next hsub => cases h; exact .abortIgnored (by simpa using hsub)
  · next hsub => cases h; exact .aborted (by simpa using hsub)

theorem execRxChunk_effect {bytes : Bytes} (h : execRxChunk bytes s = .next t) : Effect s (.rxChunk bytes) t := by
  unfold execRxChunk at h
  split at h
  · cases h
  · next hne =>
    replace hne : bytes ≠ [] := by simpa using hne
    split at h
    · next hsub => cases h; exact .chunkQueued hne hsub
    · next hsub => cases h; exact .chunkDropped hne (by simpa using hsub)

theorem execWriteDoneOk_effect (h : execWriteDoneOk s = .next t) : Effect s .writeDoneOk t := by
  unfold execWriteDoneOk at h
  split at h
  · cases h
  · next hbusy => cases h; exact .writeDone (by simpa using hbusy)

theorem execWriteDoneFail_effect (h : execWriteDoneFail s = .next t) : Effect s .writeDoneFail t := by
  unfold execWriteDoneFail at h
  split at h
  · cases h
  · next hbusy =>
    replace hbusy : s.txBusy = true := by simpa using hbusy
    split at h
    · next hfin => cases h; exact .writeFailedLate hbusy hfin
    · next hfin => cases h; exact .writeFailed hbusy (by simpa using hfin)

theorem execRxC_effect (h : execRxC s = .next t) : Effect s .rxC t := by
  unfold execRxC at h
  split at h
  · next hc => cases h; exact .cEos hc
  · next hc =>
    replace hc : s.cursor < s.count := BitVec.not_le.mp hc
    split at h
    · next hprev =>
      obtain ⟨u, hu, rfl⟩ := andThen_cases h
      rcases sendPacket_cases hu with ⟨-, f, hf, rfl⟩ | ⟨hle, -⟩ | ⟨hle, -⟩
      · exact .cSends hc (by simpa using hprev) hf
      · exact absurd hc (BitVec.not_lt.mpr hle)
      · exact absurd hc (BitVec.not_lt.mpr hle)
    · next hprev => cases h; exact .cDebounced hc (by simpa using hprev)

theorem execRxAck_effect (h : execRxAck s = .next t) : Effect s .rxAck t := by
  obtain ⟨u, hu, rfl⟩ := andThen_cases h
  unfold ackReaction at hu
  split at hu
  · next hsend => cases hu; exact .ackCloses (by simpa using hsend)
  · next hsend =>
    replace hsend : s.sending = true := by simpa using hsend
    split at hu
    · next hcur => cases hu; exact .ackHeader hsend hcur
    · next hcur =>
      split at hu
      · next hc =>
        rcases sendPacket_cases hu with ⟨-, f, hf, rfl⟩ | ⟨-, -, rfl⟩ | ⟨-, hidle, -⟩
        · exact .ackData hsend hcur hc (.inr hf)
        · exact .ackData hsend hcur hc (.inl rfl)
        · exact absurd (hidle.symm.trans hsend) nofun
      · next hc =>
        rw [sendPacket_nothing (s := { s with sending := false, sessionActive := false }) hc rfl] at hu
        cases hu; exact .ackEot hsend hcur (BitVec.not_lt.mp hc)

theorem execRxNak_effect (h : execRxNak s = .next t) : Effect s .rxNak t := by
  obtain ⟨u, hu, rfl⟩ := andThen_cases h
  rcases sendPacket_cases hu with ⟨-, f, hf, rfl⟩ | ⟨-, -, rfl⟩ | ⟨hc, hsend, rfl⟩
  · exact .nakResends (.inr hf)
  · exact .nakResends (.inl rfl)
  · exact .nakIgnored hsend hc

theorem execSoh128_effect {seq : Byte} {payload : Bytes} (h : execSoh128 seq payload s = .next t) :
    Effect s (.soh128 seq payload) t := by
  unfold execSoh128 at h
  split at h <;> cases h
  exact .wroteRow rfl rfl

theorem execStx1024_effect {seq : Byte} {payload : Bytes} (h : execStx1024 seq payload s = .next t) :
    Effect s (.stx1024 seq payload) t := by
  unfold execStx1024 at h
  split at h <;> cases h
  exact .wroteRow rfl rfl

/-- Whatever instruction answers a next state, `Effect` lists what it did. -/
theorem exec_effect {i : Instr} (h : exec i s = .next t) : Effect s i t := by
  cases i with
  | rxC => exact execRxC_effect h
  | rxAck => exact execRxAck_effect h
  | rxNak => exact execRxNak_effect h
  | rxCa => cases h; exact .caCloses
  | rxOther b => cases h; exact .otherByte
  | crc => exact execCrc_effect h
  | buildHeader => exact execBuildHeader_effect h
  | buildData => exact execBuildData_effect h
  | start => exact execStart_effect h
  | abort => exact execAbort_effect h
  | reset => cases h; exact .reset
  | rxChunk => exact execRxChunk_effect h
  | writeDoneOk => exact execWriteDoneOk_effect h
  | writeDoneFail => exact execWriteDoneFail_effect h
  | soh128 => exact execSoh128_effect h
  | stx1024 => exact execStx1024_effect h
  | eot => cases h; exact .wroteRow rfl rfl
  | eos => cases h; exact .wroteRow rfl rfl

/-- A step that answers a next state has the effect of the instruction it runs, in the state with what it takes taken
off: an inbox entry, or an inbound byte of an enabled byte step. Without an instruction it only takes off an inbox entry
and, for a register read, tells the host the value. -/
theorem step_effect (hs : s.sendReq = none) (h : step s = .next t) :
    (∃ i rest, s.nextInstr = some i ∧ (i.format = .hostCmd ∨ i.format = .chanEvt ∨ i.format = .signal) ∧
      Effect { s with inbox := rest } i t) ∨
    (∃ b q rest, s.nextInstr = some (decodeRx b) ∧ s.byteReady = true ∧ s.rxq = b :: q ∧
      Effect { s with inbox := rest, rxq := q } (decodeRx b) t) ∨
    (s.nextInstr = none ∧ ∃ rest, t = { s with inbox := rest } ∨
      ∃ r v, t = emit (.regValue r v) { s with inbox := rest }) := by
  rcases step_cases hs h with ⟨i, rest, hi, hfmt, he⟩ | ⟨b, q, rest, hi, hready, hq, he⟩ | ⟨r, v, rest, hi, -, rfl⟩ |
    ⟨rest, hi, rfl⟩
  · exact .inl ⟨i, rest, hi, hfmt, exec_effect he⟩
  · exact .inr (.inl ⟨b, q, rest, hi, hready, hq, exec_effect he⟩)
  · exact .inr (.inr ⟨hi, rest, .inr ⟨r, v, rfl⟩⟩)
  · exact .inr (.inr ⟨hi, rest, .inl rfl⟩)

end

end Sys2Proof.Machine
end

section
/-! Proofs: what the shared operations and each effect of an instruction do to the invariants (10_state.md R42). Each
lemma names only the invariants that read a changed register; the others hold of the new state as they did. -/

namespace Sys2Proof.Machine

/-! ### Arithmetic of the counters -/

/-- A counter below another counter can be raised by one. -/
theorem toNat_add_one_of_lt {a b : Word} (h : a < b) : (a + 1#32).toNat = a.toNat + 1 := by
  bv_omega

/-- A 32-bit file length has at most 4194304 chunks (10_state.md R42). -/
theorem chunkCount_le {n : Nat} (h : n ≤ Config.maxFileBytes) : chunkCount n ≤ 4194304 := by
  simp only [chunkCount, Config.longPayload, Config.maxFileBytes] at *
  omega

/-! ### What START builds -/

/-- A header check never answers the cause that only a failed write has (60_exceptions.md R201). -/
theorem headerFault_ne_ioError {name : Bytes} {size : Nat} {c : FaultCause} (h : headerFault name size = some c) :
    c ≠ .ioError := by
  unfold headerFault at h
  repeat' split at h
  all_goals cases h <;> nofun

/-- A data packet is a frame (41_framer.md R126, R134). -/
theorem isFrame_dataFrame (buf : Bytes) (k : Nat) : isFrame (dataFrame buf k) = true := by
  simp only [dataFrame]
  split
  · next hshort => exact isFrame_frame (.inl ⟨rfl, padded_length _ _ hshort.2⟩)
  · have hlong : (chunk buf k).length ≤ Config.longPayload := by simp [chunk]
    exact isFrame_frame (.inr ⟨rfl, padded_length _ _ hlong⟩)

/-- Every packet START builds is a frame (41_framer.md R134). -/
theorem isFrame_of_mem_packets {name file f : Bytes} (hc : headerFault name file.length = none)
    (hf : f ∈ frame Config.markerShort 0#8 (hdrPayload name file.length) :: dataFrames file) : isFrame f = true := by
  rcases List.mem_cons.mp hf with rfl | hf
  · exact isFrame_frame (.inl ⟨rfl, hdrPayload_length hc⟩)
  · obtain ⟨j, -, rfl⟩ := List.mem_map.mp hf
    exact isFrame_dataFrame file (j + 1)

/-! ### The invariants after reset and under the shared operations -/

section
variable {s : State}

/-- The registers of the reset state satisfy the invariants, whatever the other agents hand over or have been sent. -/
theorem inv_reset (inbox : List Input) (tx : List Bytes) (hostOut : List HostOut) :
    ({ State.reset with inbox := inbox, tx := tx, hostOut := hostOut } : State).Inv where
  cursor_le_count := BitVec.le_refl _
  written_le_total := BitVec.le_refl _
  count_eq h := absurd rfl h
  idle_at_end _ h := absurd rfl h
  subscribed_open := nofun
  result_closed := nofun
  pkt_length := rfl
  pkt_frames := nofun
  name_length := Nat.zero_le _
  subscribed_started := nofun
  written_eq := (Nat.min_zero _).symm
  closed_result := nofun
  finished_why := nofun
  open_no_reason _ := rfl
  io_finished := nofun
  fault_no_reason _ := rfl
  subscribed_no_fault := nofun
  busy_subscribed := nofun
  unsubscribed_empty _ := rfl
  result_eq := nofun
  no_send_request := rfl

theorem inv_with_inbox (h : s.Inv) (inbox : List Input) : { s with inbox := inbox }.Inv := { h with }

theorem inv_emit (h : s.Inv) (o : HostOut) : (emit o s).Inv := { h with }

theorem inv_notePrev (h : s.Inv) (b : Byte) : (notePrev b s).Inv := { h with }

/-- A subscribed block may hold any inbound bytes. -/
theorem inv_with_rxq (h : s.Inv) (hsub : s.subscribed = true) (q : Bytes) : { s with rxq := q }.Inv :=
  { h with unsubscribed_empty := fun hno => absurd (hsub.symm.trans hno) nofun }

/-- A subscribed block may have a write outstanding. -/
theorem inv_txWrite (h : s.Inv) (hsub : s.subscribed = true) (w : Bytes) : (txWrite w s).Inv :=
  { h with busy_subscribed := fun _ _ => hsub }

theorem inv_writeDone (h : s.Inv) : { s with txBusy := false }.Inv := { h with busy_subscribed := nofun }

/-- RESULT is not valid while the transfer is not finished (10_state.md R42 item 6). -/
theorem resultValid_of_open (h : s.Inv) (hfin : s.finished = false) : s.resultValid = false :=
  Bool.eq_false_iff.mpr fun hvalid => absurd (hfin.symm.trans (h.result_closed hvalid).1) nofun

/-- CLOSE of a running transfer, for either of its reasons (42_sequencer.md R166). -/
theorem inv_close (h : s.Inv) (hsub : s.subscribed = true) {r : CloseReason} (hr : r = .finalAck ∨ r = .cancel) :
    (close r s).Inv := by
  rw [close_of_open (h.subscribed_open hsub)]
  exact { h with
    subscribed_open := nofun
    result_closed := fun _ => ⟨rfl, hr⟩
    subscribed_started := nofun
    closed_result := fun _ => rfl
    finished_why := fun _ => .inl (by rcases hr with rfl | rfl <;> nofun)
    open_no_reason := nofun
    io_finished := fun _ => rfl
    fault_no_reason := fun hfault => absurd (h.subscribed_no_fault hsub) hfault
    subscribed_no_fault := nofun
    busy_subscribed := nofun
    unsubscribed_empty := fun _ => rfl
    result_eq := fun _ => ⟨rfl, rfl, rfl⟩ }

/-- ABORT of a running transfer (42_sequencer.md R167). -/
theorem inv_aborted (h : s.Inv) (hsub : s.subscribed = true) : { endTransfer s with closeReason := .aborted }.Inv :=
  have hvalid := resultValid_of_open h (h.subscribed_open hsub)
  { h with
    subscribed_open := nofun
    result_closed := fun hv => absurd (hvalid.symm.trans hv) nofun
    subscribed_started := nofun
    closed_result := nofun
    finished_why := fun _ => .inl nofun
    open_no_reason := nofun
    io_finished := fun _ => rfl
    fault_no_reason := fun hfault => absurd (h.subscribed_no_fault hsub) hfault
    subscribed_no_fault := nofun
    busy_subscribed := nofun
    unsubscribed_empty := fun _ => rfl }

/-- A failed write of a running transfer (42_sequencer.md R169). -/
theorem inv_writeFailed (h : s.Inv) (hfin : s.finished = false) :
    (takeFault .ioError (endTransfer { s with txBusy := false })).Inv :=
  have hvalid := resultValid_of_open h hfin
  have hreason := h.open_no_reason hfin
  { h with
    subscribed_open := nofun
    result_closed := fun hv => absurd (hvalid.symm.trans hv) nofun
    subscribed_started := nofun
    finished_why := fun _ => .inr rfl
    open_no_reason := nofun
    io_finished := fun _ => rfl
    fault_no_reason := fun _ => hreason
    subscribed_no_fault := nofun
    busy_subscribed := nofun
    unsubscribed_empty := fun _ => rfl }

/-- A START the framer rejects (42_sequencer.md R150). -/
theorem inv_startFault (h : s.Inv) (hsub : s.subscribed = false) (hbusy : s.txBusy = false) {c : FaultCause}
    (hc : c ≠ .ioError) : (startFault c s).Inv :=
  { h with
    subscribed_open := fun _ => rfl
    result_closed := nofun
    closed_result := nofun
    finished_why := nofun
    open_no_reason := fun _ => rfl
    io_finished := fun hio => absurd hio hc
    fault_no_reason := fun _ => rfl
    subscribed_no_fault := fun hs => absurd (hsub.symm.trans hs) nofun
    busy_subscribed := fun hb => absurd (hbusy.symm.trans hb) nofun
    result_eq := nofun }

/-- A START with an accepted header begins the transfer with COUNT = 1 + N frames (42_sequencer.md R150, R152). -/
theorem inv_beginTransfer (h : s.Inv) {name file : Bytes} (hc : headerFault name file.length = none) :
    (beginTransfer name file (frame Config.markerShort 0#8 (hdrPayload name file.length) :: dataFrames file) s).Inv := by
  obtain ⟨hsize, -, -, hname, -⟩ := headerFault_none hc
  have hchunks := chunkCount_le hsize
  simp only [Config.maxFileBytes] at hsize
  have htotal : (BitVec.ofNat 32 file.length).toNat = file.length := by
    rw [BitVec.toNat_ofNat, Nat.mod_eq_of_lt (by omega)]
  have hcount : (BitVec.ofNat 32 (dataFrames file).length.succ).toNat = 1 + chunkCount file.length := by
    rw [BitVec.toNat_ofNat, dataFrames_length, Nat.mod_eq_of_lt (by omega), Nat.succ_eq_one_add]
  exact { h with
    cursor_le_count := BitVec.le_def.mpr (Nat.zero_le _)
    written_le_total := BitVec.le_def.mpr (Nat.zero_le _)
    count_eq := fun _ => hcount.trans (congrArg (1 + chunkCount ·) htotal.symm)
    idle_at_end := fun _ hcur => absurd rfl hcur
    subscribed_open := fun _ => rfl
    result_closed := nofun
    pkt_length := (congrArg Nat.succ (dataFrames_length file)).trans ((Nat.succ_eq_one_add _).trans hcount.symm)
    pkt_frames := fun _ hf => isFrame_of_mem_packets hc hf
    name_length := hname
    subscribed_started := fun _ hzero => absurd (congrArg BitVec.toNat hzero) (by
      rw [beginTransfer_count, List.length_cons, hcount, BitVec.toNat_zero]; omega)
    written_eq := by simp
    closed_result := nofun
    finished_why := nofun
    open_no_reason := fun _ => rfl
    io_finished := nofun
    fault_no_reason := fun _ => rfl
    subscribed_no_fault := fun _ => rfl
    busy_subscribed := fun _ _ => rfl
    unsubscribed_empty := nofun
    result_eq := nofun }

/-! ### The reactions to C and ACK -/

theorem inv_sending (h : s.Inv) : { s with sending := true }.Inv := { h with idle_at_end := nofun }

/-- The ACK of the header moves the cursor to the first data packet (42_sequencer.md R156). -/
theorem inv_ackHeader (h : s.Inv) (hsub : s.subscribed = true) (hsend : s.sending = true) (hcur : s.cursor = 0#32) :
    { s with cursor := 1#32 }.Inv :=
  have hwritten : s.written.toNat = 0 := by simpa [hcur] using h.written_eq
  have hcount : s.count ≠ 0#32 := h.subscribed_started hsub
  { h with
    cursor_le_count := by
      change 1#32 ≤ s.count
      bv_omega
    idle_at_end := fun hidle => absurd (hsend.symm.trans hidle) nofun
    written_eq := by simpa using hwritten }

/-- The ACK of data packet CURSOR counts its bytes as written (42_sequencer.md R157). -/
theorem inv_ackData (h : s.Inv) (hsub : s.subscribed = true) (hsend : s.sending = true) (hc : s.cursor < s.count) :
    { s with
      written := BitVec.ofNat 32 (min (s.cursor.toNat * Config.ackStride) s.total.toNat)
      cursor := s.cursor + 1#32 }.Inv :=
  have hvalid := resultValid_of_open h (h.subscribed_open hsub)
  have hcursor := toNat_add_one_of_lt hc
  have hwritten : (BitVec.ofNat 32 (min (s.cursor.toNat * Config.ackStride) s.total.toNat)).toNat =
      min (s.cursor.toNat * Config.ackStride) s.total.toNat := by
    rw [BitVec.toNat_ofNat, Nat.mod_eq_of_lt (lt_of_le_of_lt (Nat.min_le_right _ _) s.total.isLt)]
  { h with
    cursor_le_count := BitVec.le_def.mpr (hcursor.trans_le hc)
    written_le_total := BitVec.le_def.mpr (hwritten.trans_le (Nat.min_le_right _ _))
    idle_at_end := fun hidle => absurd (hsend.symm.trans hidle) nofun
    written_eq := by rw [hcursor]; exact hwritten
    result_eq := fun hv => absurd (hvalid.symm.trans hv) nofun }

/-- The ACK of EOT leaves the cursor at COUNT (42_sequencer.md R156). -/
theorem inv_ackEot (h : s.Inv) (hc : s.count ≤ s.cursor) : { s with sending := false, sessionActive := false }.Inv :=
  { h with idle_at_end := fun _ _ => BitVec.le_antisymm h.cursor_le_count hc }

/-! ### Every effect keeps the invariants -/

/-- What a step lets an instruction do in `s`: an outbound row is never run by itself, and an inbound byte is handled by
a subscribed block only (42_sequencer.md R154). -/
def Allowed (s : State) (i : Instr) : Prop :=
  i.format ≠ .outbound ∧ (i.format = .rxByte → s.subscribed = true)

/-- Each effect of an instruction a step lets run keeps the invariants. -/
theorem inv_effect {t : State} {i : Instr} (h : s.Inv) (hi : Allowed s i) (he : Effect s i t) : t.Inv := by
  obtain ⟨hrow, hrx⟩ := hi
  cases he with
  | crcTold | headerTold | dataTold => exact inv_emit h _
  | startRejected hsub hbusy hc => exact inv_startFault h hsub hbusy (headerFault_ne_ioError hc)
  | started _ _ hc => exact inv_beginTransfer h hc
  | abortIgnored | chunkDropped => exact h
  | aborted hsub => exact inv_aborted h hsub
  | reset => exact inv_reset _ _ _
  | chunkQueued _ hsub => exact inv_with_rxq h hsub _
  | writeDone | writeFailedLate => exact inv_writeDone h
  | writeFailed _ hfin => exact inv_writeFailed h hfin
  | cEos => exact inv_notePrev (inv_txWrite h (hrx rfl) _) _
  | cSends => exact inv_notePrev (inv_sending (inv_txWrite h (hrx rfl) _)) _
  | cDebounced | nakIgnored | otherByte => exact inv_notePrev h _
  | ackCloses => exact inv_notePrev (inv_close h (hrx rfl) (.inl rfl)) _
  | ackHeader hsend hcur => exact inv_notePrev (inv_ackHeader h (hrx rfl) hsend hcur) _
  | ackData hsend _ hc => exact inv_notePrev (inv_txWrite (inv_ackData h (hrx rfl) hsend hc) (hrx rfl) _) _
  | ackEot _ _ hc => exact inv_notePrev (inv_ackEot h hc) _
  | nakResends => exact inv_notePrev (inv_txWrite h (hrx rfl) _) _
  | caCloses => exact inv_notePrev (inv_close h (hrx rfl) (.inr rfl)) _
  | wroteRow hout => exact absurd hout hrow

end

end Sys2Proof.Machine
end

section
/-! Proofs: the invariants hold at reset, along every step and so in every reachable state (10_state.md R42). -/

namespace Sys2Proof.Machine

/-- An inbound byte decodes to a control byte (30_encoding.md R71). -/
@[simp] theorem decodeRx_format (b : Byte) : (decodeRx b).format = .rxByte := by
  unfold decodeRx
  repeat' split
  all_goals rfl

/-- A host command, a channel event or RESET is neither an inbound byte nor an outbound row. -/
theorem format_ne_of_event {i : Instr} (h : i.format = .hostCmd ∨ i.format = .chanEvt ∨ i.format = .signal) :
    i.format ≠ .rxByte ∧ i.format ≠ .outbound := by
  rcases h with e | e | e <;> rw [e] <;> exact ⟨nofun, nofun⟩

/-- Settles O44: the reset registers satisfy each invariant, and none of them reads the inbox. -/
theorem invariantsHoldAtReset : Obligations.InvariantsHoldAtReset :=
  fun inputs => inv_reset inputs [] []

/-- Settles O45: a step takes an entry or a byte off, which keeps the invariants, and then has the effect of an
instruction allowed there, or tells the host a register, or waits. -/
theorem everyStepKeepsInvariants : Obligations.EveryStepKeepsInvariants := by
  intro s t h hstep
  rcases step_effect h.no_send_request hstep with ⟨i, rest, -, hfmt, he⟩ | ⟨b, q, rest, -, hready, -, he⟩ |
    ⟨-, rest, rfl | ⟨r, v, rfl⟩⟩
  · obtain ⟨hrx, hrow⟩ := format_ne_of_event hfmt
    exact inv_effect (inv_with_inbox h rest) ⟨hrow, fun e => absurd e hrx⟩ he
  · have hsub : s.subscribed = true := ((byteReady_iff s).mp hready).1
    have hrow : (decodeRx b).format ≠ .outbound := decodeRx_format b ▸ nofun
    exact inv_effect (inv_with_rxq (inv_with_inbox h rest) hsub q) ⟨hrow, fun _ => hsub⟩ he
  · exact inv_with_inbox h rest
  · exact inv_emit (inv_with_inbox h rest) _

/-- What every step keeps holds at the end of every run it held at the start of. -/
theorem runSteps_induction {P : State → Prop} (hstep : ∀ s t, P s → step s = .next t → P t) {n : Nat} {s t : State}
    (hs : P s) (hrun : runSteps n s = .next t) : P t := by
  induction n generalizing s with
  | zero => cases hrun; exact hs
  | succ n ih =>
    unfold runSteps at hrun
    split at hrun
    · next u hu => exact ih (hstep s u hs hu) hrun
    · cases hrun
    · cases hrun

/-- COUNT is at most 4194305: TOTAL is a 32-bit number (10_state.md R42). -/
theorem count_le {s : State} (h : s.Inv) : s.count.toNat ≤ 4194305 := by
  by_cases hzero : s.count = 0#32
  · simp [hzero]
  · have hchunks := chunkCount_le (n := s.total.toNat) (Nat.le_of_lt_succ s.total.isLt)
    rw [h.count_eq hzero]
    omega

/-- Settles O46: the invariants hold at reset and every step of the run keeps them. -/
theorem reachableStatesSatisfyInvariants : Obligations.ReachableStatesSatisfyInvariants := by
  rintro s ⟨n, inputs, hrun⟩
  have hinv : s.Inv := runSteps_induction everyStepKeepsInvariants (invariantsHoldAtReset inputs) hrun
  exact ⟨hinv, count_le hinv⟩

end Sys2Proof.Machine
end

section
/-! Proofs: no reachable meaning faults, so that a read of an invalid RESULT is the only fault (10_state.md R36). -/

namespace Sys2Proof.Machine

section
variable {s : State}

theorem andThen_fault_iff {o : Out} {g : State → State} {f : Fault} : andThen o g = .fault f ↔ o = .fault f := by
  cases o <;> simp [andThen]

/-- With COUNT frames in PKT, SENDPACKET does not fault (10_state.md R23). -/
theorem sendPacket_ne_fault (h : s.pkt.length = s.count.toNat) (f : Fault) : sendPacket s ≠ .fault f := by
  obtain ⟨t, ht⟩ := sendPacket_next h
  rw [ht]; nofun

theorem execRxC_ne_fault (h : s.pkt.length = s.count.toNat) (f : Fault) : execRxC s ≠ .fault f := by
  unfold execRxC
  split
  · nofun
  · split
    · exact fun hf => sendPacket_ne_fault h f (andThen_fault_iff.mp hf)
    · nofun

theorem execRxAck_ne_fault (h : s.pkt.length = s.count.toNat) (f : Fault) : execRxAck s ≠ .fault f := by
  refine fun hf => absurd (andThen_fault_iff.mp hf) ?_
  unfold ackReaction
  repeat' split
  · nofun
  · nofun
  · exact sendPacket_ne_fault (by exact h) f
  · exact sendPacket_ne_fault (by exact h) f

theorem execRxNak_ne_fault (h : s.pkt.length = s.count.toNat) (f : Fault) : execRxNak s ≠ .fault f :=
  fun hf => sendPacket_ne_fault h f (andThen_fault_iff.mp hf)

/-- With COUNT frames in PKT no instruction faults. -/
theorem exec_ne_fault (h : s.pkt.length = s.count.toNat) (i : Instr) (f : Fault) : exec i s ≠ .fault f := by
  cases i with
  | rxC => exact execRxC_ne_fault h f
  | rxAck => exact execRxAck_ne_fault h f
  | rxNak => exact execRxNak_ne_fault h f
  | rxCa | rxOther | reset | eot | eos => nofun
  | crc => simp only [exec, execCrc]; split <;> nofun
  | buildHeader => simp only [exec, execBuildHeader]; split <;> nofun
  | buildData => simp only [exec, execBuildData]; split <;> nofun
  | start => simp only [exec, execStart]; split <;> [nofun; split <;> nofun]
  | abort => simp only [exec, execAbort]; split <;> nofun
  | rxChunk => simp only [exec, execRxChunk]; split <;> [nofun; split <;> nofun]
  | writeDoneOk => simp only [exec, execWriteDoneOk]; split <;> nofun
  | writeDoneFail => simp only [exec, execWriteDoneFail]; split <;> [nofun; split <;> nofun]
  | soh128 => simp only [exec, execSoh128]; split <;> nofun
  | stx1024 => simp only [exec, execStx1024]; split <;> nofun

/-- A register read that faults is one of RESULT while it is not valid (10_state.md R36). -/
theorem hostRead_fault {r : Reg} {f : Fault} (h : hostRead r s = .fault f) :
    f = .resultNotValid ∧ s.resultValid = false ∧ r ∈ [Reg.resultName, .resultTotal, .resultWritten] := by
  cases r with
  | status | cursor | count | total | written => cases h
  | resultName | resultTotal | resultWritten =>
    cases hv : s.resultValid <;> simp [hostRead, readReg, hv] at h
    exact ⟨h.symm, rfl, by decide⟩

/-- A step that runs an encoded form does not fault while PKT holds COUNT frames. -/
theorem step_ne_fault_of_run {t : State} {raw : Raw} (hf : fetch s = .run raw t) (h : t.pkt.length = t.count.toNat)
    (f : Fault) : step s ≠ .fault f := by
  simp only [step, hf]
  split
  · exact exec_ne_fault h _ f
  · nofun

end

/-- Settles O48: whatever the step runs finds COUNT frames in PKT, so only a register read is left to fault. -/
theorem onlyInvalidResultReadsFault : Obligations.OnlyInvalidResultReadsFault := by
  intro s f h hstep
  have hf := fetch_of_noSend h.no_send_request
  rcases nextInput_cases s with ⟨op, args, rest, -, e⟩ | ⟨ev, args, rest, -, e⟩ | ⟨rest, -, e⟩ | ⟨r, rest, hin, e⟩ |
    ⟨b, q, rest, -, -, -, e⟩ | ⟨rest, -, -, e⟩
  · exact absurd hstep (step_ne_fault_of_run (hf.trans e) h.pkt_length f)
  · exact absurd hstep (step_ne_fault_of_run (hf.trans e) h.pkt_length f)
  · exact absurd hstep (step_ne_fault_of_run (hf.trans e) h.pkt_length f)
  · simp only [step, hf.trans e] at hstep
    obtain ⟨rfl, hvalid, hr⟩ := hostRead_fault hstep
    exact ⟨rfl, hvalid, r, rest, hin, hr⟩
  · exact absurd hstep (step_ne_fault_of_run (hf.trans e) h.pkt_length f)
  · simp [step, hf.trans e] at hstep

end Sys2Proof.Machine
end

section
/-! Proofs: the phase table (10_state.md R38). -/

namespace Sys2Proof.Machine

/-- The phase, its conditions as propositions in the order and wording of the table (10_state.md R38). -/
theorem phase_eq (s : State) :
    s.phase =
      if s.subscribed = false ∧ s.finished = false ∧ s.faultCause = .none then some .idle
      else if s.subscribed = false ∧ s.finished = false ∧ s.faultCause ≠ .none then some .rejected
      else if s.subscribed = true ∧ s.sending = false ∧ s.cursor = 0#32 then some .awaitingStart
      else if s.subscribed = true ∧ s.sending = true ∧ s.cursor = 0#32 then some .sendingHeader
      else if s.subscribed = true ∧ s.sending = true ∧ 1#32 ≤ s.cursor ∧ s.cursor < s.count then
        some (.sendingData s.cursor.toNat)
      else if s.subscribed = true ∧ s.cursor = s.count then some .awaitingFinalAck
      else if s.finished = true ∧ (s.closeReason = .finalAck ∨ s.closeReason = .cancel) then some .closed
      else if s.finished = true ∧ s.closeReason = .aborted then some .aborted
      else if s.finished = true ∧ s.faultCause = .ioError then some .failed
      else none := by
  have hpos : s.cursor ≠ 0#32 → 1#32 ≤ s.cursor := by bv_omega
  unfold State.phase
  refine ite_congr (by simp [and_assoc]) (fun _ => rfl) fun hidle => ?_
  refine ite_congr (by simp_all) (fun _ => rfl) fun _ => ?_
  refine ite_congr (by simp [and_assoc]) (fun _ => rfl) fun _ => ?_
  refine ite_congr (by simp [and_assoc]) (fun _ => rfl) fun hheader => ?_
  refine ite_congr (by simp_all [and_assoc]) (fun _ => rfl) fun _ => ?_
  refine ite_congr (by simp) (fun _ => rfl) fun _ => ?_
  refine ite_congr (by simp) (fun _ => rfl) fun _ => ?_
  refine ite_congr (by simp) (fun _ => rfl) fun _ => ?_
  exact ite_congr (by simp) (fun _ => rfl) fun _ => rfl

/-- A state with the invariants has a phase: a subscribed block is before, in or past the packets, and a finished one
has a reason (10_state.md R38). -/
theorem exists_phase {s : State} (h : s.Inv) : ∃ p, s.phase = some p := by
  cases hsub : s.subscribed with
  | true =>
    by_cases hcur : s.cursor = 0#32
    · cases hsend : s.sending with
      | false => exact ⟨.awaitingStart, by simp [State.phase, hsub, hsend, hcur]⟩
      | true => exact ⟨.sendingHeader, by simp [State.phase, hsub, hsend, hcur]⟩
    · by_cases hend : s.cursor = s.count
      · exact ⟨.awaitingFinalAck, by simp [State.phase, hsub, hend ▸ hcur, hend]⟩
      · have hsend : s.sending = true := Bool.not_eq_false _ ▸ fun hidle => hend (h.idle_at_end hidle hcur)
        have hlt : s.cursor < s.count := BitVec.lt_of_le_ne h.cursor_le_count hend
        exact ⟨.sendingData s.cursor.toNat, by simp [State.phase, hsub, hsend, hcur, hlt]⟩
  | false =>
    cases hfin : s.finished with
    | false =>
      by_cases hfault : s.faultCause = .none
      · exact ⟨.idle, by simp [State.phase, hsub, hfin, hfault]⟩
      · exact ⟨.rejected, by simp [State.phase, hsub, hfin, hfault]⟩
    | true =>
      cases hreason : s.closeReason with
      | finalAck | cancel => exact ⟨.closed, by simp [State.phase, hsub, hfin, hreason]⟩
      | aborted => exact ⟨.aborted, by simp [State.phase, hsub, hfin, hreason]⟩
      | none =>
        have hio : s.faultCause = .ioError := (h.finished_why hfin).resolve_left (absurd hreason)
        exact ⟨.failed, by simp [State.phase, hsub, hfin, hreason, hio]⟩

/-- Settles O47: the table is how the phase is computed, and the invariants leave no state outside its rows. -/
theorem phaseTableIsComplete : Obligations.PhaseTableIsComplete :=
  fun s h => ⟨exists_phase h, phase_eq s⟩

end Sys2Proof.Machine
end

section
/-! Proofs: what a step that is neither START nor RESET leaves as it is (10_state.md R22 to R26, R30). -/

namespace Sys2Proof.Machine

/-- The next step, if it runs an instruction, runs one that begins the registers anew: RESET or START. -/
def Restarts (next : Option Instr) : Prop := next = some .reset ∨ ∃ name file, next = some (.start name file)

section
variable {s t : State} {i : Instr}

/-- START and RESET alone write the packet store (10_state.md R22, R23, R24, R26). -/
theorem Effect.store_frame (he : Effect s i t) :
    Restarts (some i) ∨ (t.pkt = s.pkt ∧ t.name = s.name ∧ t.count = s.count ∧ t.total = s.total) := by
  cases he with
  | startRejected | started => exact .inl (.inr ⟨_, _, rfl⟩)
  | reset => exact .inl (.inl rfl)
  | ackCloses | caCloses => exact .inr (by simp)
  | _ => exact .inr ⟨rfl, rfl, rfl, rfl⟩

/-- START, RESET and an ACK with SENDING = 1 alone write CURSOR (10_state.md R25). -/
theorem Effect.cursor_cases (he : Effect s i t) :
    Restarts (some i) ∨ t.cursor = s.cursor ∨
      (i = .rxAck ∧ s.sending = true ∧ t.cursor.toNat = s.cursor.toNat + 1) := by
  cases he with
  | startRejected | started => exact .inl (.inr ⟨_, _, rfl⟩)
  | reset => exact .inl (.inl rfl)
  | ackHeader hsend hcur => exact .inr (.inr ⟨rfl, hsend, by simp [hcur]⟩)
  | ackData hsend _ hc => exact .inr (.inr ⟨rfl, hsend, toNat_add_one_of_lt hc⟩)
  | ackCloses | caCloses => exact .inr (.inl (by simp))
  | _ => exact .inr (.inl rfl)

/-- An output that is no DONE does not count as one. -/
theorem doneCount_emit {o : HostOut} (ho : ∀ r, o ≠ .done r) : doneCount (emit o s) = doneCount s := by
  cases o with
  | done r => exact absurd rfl (ho r)
  | _ => simp [doneCount]

/-- In a finished transfer an event that is not START or RESET changes nothing but TX_BUSY and what the host has been
told, which is no DONE (10_state.md R30). -/
theorem Effect.finished_frame (he : Effect s i t) (hfin : s.finished = true) (hsub : s.subscribed = false)
    (hrx : i.format ≠ .rxByte) (hrow : i.format ≠ .outbound) (hi : ¬ Restarts (some i)) :
    t = { s with txBusy := t.txBusy, hostOut := t.hostOut } ∧ doneCount t = doneCount s := by
  cases he with
  | crcTold ho | headerTold ho | dataTold ho => exact ⟨rfl, doneCount_emit ho⟩
  | startRejected | started => exact absurd (.inr ⟨_, _, rfl⟩) hi
  | reset => exact absurd (.inl rfl) hi
  | abortIgnored | chunkDropped | writeDone | writeFailedLate => exact ⟨rfl, rfl⟩
  | aborted hrunning | chunkQueued _ hrunning => exact absurd (hsub.symm.trans hrunning) nofun
  | writeFailed _ hopen => exact absurd (hfin.symm.trans hopen) nofun
  | wroteRow hout => exact absurd hout hrow
  | _ => exact absurd rfl hrx

/-- A step of a finished transfer that is not START or RESET changes nothing but the inbox, TX_BUSY and what the host
has been told, which is no DONE (10_state.md R30). -/
theorem step_finished_frame (h : s.Inv) (hfin : s.finished = true) (hnext : ¬ Restarts s.nextInstr)
    (hstep : step s = .next t) :
    t = { s with inbox := t.inbox, txBusy := t.txBusy, hostOut := t.hostOut } ∧ doneCount t = doneCount s := by
  have hsub : s.subscribed = false :=
    Bool.eq_false_iff.mpr fun hsub => absurd (hfin.symm.trans (h.subscribed_open hsub)) nofun
  rcases step_effect h.no_send_request hstep with ⟨i, rest, hi, hfmt, he⟩ | ⟨b, q, rest, -, hready, -⟩ |
    ⟨-, rest, rfl | ⟨r, v, rfl⟩⟩
  · obtain ⟨hrx, hrow⟩ := format_ne_of_event hfmt
    obtain ⟨hframe, hdone⟩ := he.finished_frame hfin hsub hrx hrow (hi ▸ hnext)
    exact ⟨hframe.trans (by rw [hframe]), hdone⟩
  · exact absurd (hsub.symm.trans ((byteReady_iff s).mp hready).1) nofun
  · exact ⟨rfl, rfl⟩
  · exact ⟨rfl, doneCount_emit nofun⟩

end

/-- Settles O53: no effect but START's and RESET's writes the packet store. -/
theorem packetStoreIsWrittenByStartOnly : Obligations.PacketStoreIsWrittenByStartOnly := by
  intro s t h hstep
  rcases step_effect h.no_send_request hstep with ⟨i, rest, hi, -, he⟩ | ⟨b, q, rest, hi, -, -, he⟩ |
    ⟨-, rest, rfl | ⟨r, v, rfl⟩⟩
  · rw [hi]; exact he.store_frame
  · rw [hi]; exact he.store_frame
  · exact .inr ⟨rfl, rfl, rfl, rfl⟩
  · exact .inr ⟨rfl, rfl, rfl, rfl⟩

/-- Settles O54: the only effects but START's and RESET's that write CURSOR are those of an ACK with SENDING = 1. -/
theorem cursorMovesByAckOnly : Obligations.CursorMovesByAckOnly := by
  intro s t h hstep
  rcases step_effect h.no_send_request hstep with ⟨i, rest, hi, -, he⟩ | ⟨b, q, rest, hi, -, -, he⟩ |
    ⟨-, rest, rfl | ⟨r, v, rfl⟩⟩
  · simpa [hi, Restarts] using he.cursor_cases
  · simpa [hi, Restarts] using he.cursor_cases
  · exact .inr (.inl rfl)
  · exact .inr (.inl rfl)

/-- Settles O55: every register named stands outside of what such a step can change. -/
theorem finishedTransferIsFrozen : Obligations.FinishedTransferIsFrozen := by
  intro s t h hfin hreset hstart hstep
  have hnext : ¬ Restarts s.nextInstr := not_or.mpr ⟨hreset, fun ⟨name, file, e⟩ => hstart name file e⟩
  obtain ⟨hframe, hdone⟩ := step_finished_frame h hfin hnext hstep
  refine ⟨?_, ?_, ?_, ?_, ?_, ?_, ?_, ?_, ?_, ?_, hdone⟩ <;> rw [hframe]
  exact hfin

end Sys2Proof.Machine
end

section
/-! Proofs: the registers after reset, and as the host reads them (10_state.md R36, R37, R44). -/

namespace Sys2Proof.Machine

/-- Settles O27: the table of R44 is how the reset state is written out. -/
theorem stateAfterReset : Obligations.StateAfterReset := by
  refine ⟨rfl, rfl, rfl, rfl, rfl, rfl, rfl, rfl, rfl, rfl, rfl, rfl, rfl, rfl, rfl, rfl, rfl, rfl, rfl, rfl, ?_⟩
  decide

/-- A register read at the head of the inbox is taken off and answered. -/
theorem step_of_read {s : State} {r : Reg} {rest : List Input} (hs : s.sendReq = none)
    (hin : s.inbox = .read r :: rest) : step s = hostRead r { s with inbox := rest } := by
  simp [step, fetch_of_noSend hs, nextInput, hin]

/-- Settles O42: a read is answered by `readReg`, which has the named value or, for an invalid RESULT, none. -/
theorem hostReadsRegisters : Obligations.HostReadsRegisters := by
  intro s rest hs
  refine ⟨?always, ?valid, ?invalid⟩
  case always =>
    intro r v hin hr
    rw [step_of_read hs hin]
    rcases hr with ⟨rfl, rfl⟩ | ⟨rfl, rfl⟩ | ⟨rfl, rfl⟩ | ⟨rfl, rfl⟩ | ⟨rfl, rfl⟩ <;> rfl
  case valid =>
    intro r v hin hvalid hr
    rw [step_of_read hs hin]
    rcases hr with ⟨rfl, rfl⟩ | ⟨rfl, rfl⟩ | ⟨rfl, rfl⟩ <;> simp [hostRead, readReg, hvalid, emit]
  case invalid =>
    intro r hin hvalid hr
    rw [step_of_read hs hin]
    fin_cases hr <;> simp [hostRead, readReg, hvalid]

/-! ### STATUS -/

/-- A field of STATUS is its value from its lowest bit on. -/
theorem getLsbD_statusField {n : Nat} (lo : Nat) (v : BitVec n) (k : Nat) :
    (statusField lo v).getLsbD k = (decide (lo ≤ k) && decide (k < 32) && v.getLsbD (k - lo)) := by
  rw [statusField, BitVec.getLsbD_shiftLeft, BitVec.getLsbD_setWidth]
  grind

/-- Outside of its bits a field of STATUS reads 0. -/
theorem getLsbD_statusField_outside {n lo k : Nat} (v : BitVec n) (h : k < lo ∨ lo + n ≤ k) :
    (statusField lo v).getLsbD k = false := by
  rw [getLsbD_statusField]
  rcases h with h | h
  · simp [Nat.not_le.mpr h]
  · simp [BitVec.getLsbD_of_ge v (k - lo) (by omega)]

/-- Bits that lie outside of a field of STATUS read 0 in it. -/
theorem extractLsb'_statusField_outside {n lo a len : Nat} (v : BitVec n) (h : a + len ≤ lo ∨ lo + n ≤ a) :
    (statusField lo v).extractLsb' a len = 0#len := by
  refine BitVec.eq_of_getLsbD_eq fun k hk => ?_
  rw [BitVec.getLsbD_extractLsb', getLsbD_statusField_outside v (by omega)]
  simp

/-- The bits of a field of STATUS read its value. -/
theorem extractLsb'_statusField_same {n lo : Nat} (v : BitVec n) (h : lo + n ≤ 32) :
    (statusField lo v).extractLsb' lo n = v := by
  refine BitVec.eq_of_getLsbD_eq fun k hk => ?_
  rw [BitVec.getLsbD_extractLsb', getLsbD_statusField]
  simp [hk, show lo + k < 32 by omega]

/-- A flag of STATUS stands in its own bit alone. -/
theorem getLsbD_statusFlag {lo : Nat} (hlo : lo < 32) (b : Bool) (k : Nat) :
    (statusFlag lo b).getLsbD k = (decide (k = lo) && b) := by
  by_cases hk : k = lo
  · rw [statusFlag, getLsbD_statusField]
    simp [hk, hlo]
  · rw [statusFlag, getLsbD_statusField_outside _ (by omega)]
    simp [hk]

/-- The low byte of STATUS: seven flags, and bit 7 reserved (10_state.md R37). -/
theorem getLsbD_status_low (s : State) {k : Nat} (hk : k < 8) :
    s.status.getLsbD k =
      (decide (k = 0) && s.subscribed || decide (k = 1) && s.sessionActive || decide (k = 2) && s.sending
        || decide (k = 3) && s.finished || decide (k = 4) && s.txBusy || decide (k = 5) && s.prevValid
        || decide (k = 6) && s.resultValid) := by
  have hreason := getLsbD_statusField_outside s.closeReason.code (.inl hk)
  have hfault := getLsbD_statusField_outside (lo := 12) (k := k) (faultCode s.faultCause) (by omega)
  have hprev := getLsbD_statusField_outside (lo := 16) (k := k) s.prevByte (by omega)
  simp (disch := decide) only [State.status, BitVec.getLsbD_or, getLsbD_statusFlag, hreason, hfault, hprev,
    Bool.or_false]

/-- The fields of STATUS above its flags stand apart: each range of bits reads the fields that meet it. -/
theorem extractLsb'_status_high (s : State) {a len : Nat} (ha : 8 ≤ a) :
    s.status.extractLsb' a len =
      (statusField 8 s.closeReason.code).extractLsb' a len ||| (statusField 12 (faultCode s.faultCause)).extractLsb' a len
        ||| (statusField 16 s.prevByte).extractLsb' a len := by
  have hflag (lo : Nat) (hlo : lo < 8) (b : Bool) : (statusFlag lo b).extractLsb' a len = 0#len :=
    extractLsb'_statusField_outside _ (by omega)
  simp [State.status, BitVec.extractLsb'_or, hflag]

/-- Settles O43: no two fields of STATUS overlap, so each reads the register it is built from. -/
theorem statusFields : Obligations.StatusFields := by
  intro s
  refine ⟨?_, ?_, ?_, ?_, ?_, ?_, ?_, ?_, ?reason, ?fault, ?prev, ?reserved⟩
  case reason =>
    simp (disch := decide) only [extractLsb'_status_high, extractLsb'_statusField_same,
      extractLsb'_statusField_outside, BitVec.or_zero]
    cases s.closeReason <;> rfl
  case fault =>
    simp (disch := decide) only [extractLsb'_status_high, extractLsb'_statusField_same,
      extractLsb'_statusField_outside, BitVec.or_zero, BitVec.zero_or]
    cases s.faultCause <;> rfl
  case prev | reserved =>
    simp (disch := decide) only [extractLsb'_status_high, extractLsb'_statusField_same,
      extractLsb'_statusField_outside, BitVec.or_zero, BitVec.zero_or]
  all_goals
    rw [getLsbD_status_low s (by decide)]
    simp

end Sys2Proof.Machine
end

section
/-! Proofs: what a step writes to the channel, and what it does while a write is outstanding (20_memory.md R58, R62). -/

namespace Sys2Proof.Machine

/-! ### The byte strings of the channel writes -/

/-- A zero byte leaves a zero remainder as it is (40_crc.md R101). -/
theorem crcStep_zero : crcStep 0#16 0#8 = 0#16 := by decide

/-- A string of zeros leaves a zero remainder as it is (40_crc.md R108). -/
theorem crcFold_zeros (n : Nat) : crcFold 0#16 (rep 0#8 n) = 0#16 := by
  induction n with
  | zero => rfl
  | succ n ih => rw [rep, List.replicate_succ, crcFold_cons, crcStep_zero, ih]

/-- EOS is the short frame with sequence 0 and 128 zero bytes, whose CRC is zero (30_encoding.md R78). -/
theorem eosFrame_eq_frame : eosFrame = frame Config.markerShort 0#8 (rep 0#8 Config.shortPayload) := by
  rw [frame, crc16_eq_fold, crcFold_zeros]
  rfl

theorem isFrame_eosFrame : isFrame eosFrame = true := by
  rw [eosFrame_eq_frame]
  exact isFrame_frame (.inl ⟨rfl, List.length_replicate⟩)

/-- A frame is 133 or 1029 bytes long, as its marker says (30_encoding.md R74). -/
theorem length_of_isFrame {f : Bytes} (h : isFrame f = true) : f.length = 133 ∨ f.length = 1029 := by
  unfold isFrame at h
  split at h
  · next marker seq cseq rest =>
    simp only [Bool.and_eq_true, beq_iff_eq] at h
    obtain ⟨⟨⟨-, hlen⟩, -⟩, -⟩ := h
    rw [List.length_cons, List.length_cons, List.length_cons, hlen]
    split
    · exact .inl rfl
    · exact .inr rfl
  · cases h

/-- The byte strings the block writes with its cursor at `cursor`: EOT, EOS or the packet there (42_sequencer.md R155,
R164). -/
def Sendable (pkt : List Bytes) (cursor : Word) (w : Bytes) : Prop :=
  w = eotString ∨ w = eosFrame ∨ pkt[cursor.toNat]? = some w

section
variable {s t : State} {i : Instr}

/-- What the block writes is one whole frame or the byte 0x04 (20_memory.md R58). -/
theorem Sendable.whole {cursor : Word} {w : Bytes} (hw : Sendable s.pkt cursor w) (h : s.Inv) :
    (isFrame w = true ∧ (w.length = 133 ∨ w.length = 1029)) ∨ w = [0x04#8] := by
  rcases hw with rfl | rfl | hw
  · exact .inr rfl
  · exact .inl ⟨isFrame_eosFrame, length_of_isFrame isFrame_eosFrame⟩
  · have hframe := h.pkt_frames w (List.mem_of_getElem? hw)
    exact .inl ⟨hframe, length_of_isFrame hframe⟩

/-! ### What a step writes -/

/-- An instruction other than an outbound row writes nothing, or it is an inbound byte and writes one byte string
(42_sequencer.md R165). -/
theorem Effect.tx_cases (he : Effect s i t) (hrow : i.format ≠ .outbound) :
    t.tx = s.tx ∨ (i.format = .rxByte ∧ t.rxq = s.rxq ∧ t.txBusy = true ∧
      ∃ w, t.tx = s.tx ++ [w] ∧ Sendable s.pkt t.cursor w) := by
  cases he with
  | cEos => exact .inr ⟨rfl, rfl, rfl, _, rfl, .inr (.inl rfl)⟩
  | cSends _ _ hf => exact .inr ⟨rfl, rfl, rfl, _, rfl, .inr (.inr hf)⟩
  | ackData _ _ _ hw => exact .inr ⟨rfl, rfl, rfl, _, rfl, hw.imp_right .inr⟩
  | nakResends hw => exact .inr ⟨rfl, rfl, rfl, _, rfl, hw.imp_right .inr⟩
  | wroteRow hout => exact absurd hout hrow
  | ackCloses | caCloses => exact .inl (by simp)
  | _ => exact .inl rfl

/-- A step writes nothing, or it handles the head of RXQ in an enabled byte step and writes one byte string
(42_sequencer.md R154, R165). -/
theorem step_tx_cases (h : s.Inv) (hstep : step s = .next t) :
    t.tx = s.tx ∨ (s.byteReady = true ∧ (∃ b, s.rxq = b :: t.rxq) ∧ t.txBusy = true ∧
      ∃ w, t.tx = s.tx ++ [w] ∧ Sendable s.pkt t.cursor w) := by
  rcases step_effect h.no_send_request hstep with ⟨i, rest, -, hfmt, he⟩ | ⟨b, q, rest, -, hready, hq, he⟩ |
    ⟨-, rest, rfl | ⟨r, v, rfl⟩⟩
  · obtain ⟨hrx, hrow⟩ := format_ne_of_event hfmt
    exact (he.tx_cases hrow).imp_right fun ⟨hbyte, _⟩ => absurd hbyte hrx
  · have hrow : (decodeRx b).format ≠ .outbound := decodeRx_format b ▸ nofun
    exact (he.tx_cases hrow).imp_right fun ⟨_, hrxq, hwrite⟩ => ⟨hready, ⟨b, by rw [hq, hrxq]⟩, hwrite⟩
  · exact .inl rfl
  · exact .inl rfl

/-! ### What goes on during a write -/

/-- While a write is outstanding a host command or a channel event leaves the TX stream, the counters, SENDING,
SESSION_ACTIVE and PREV as they are, and keeps the bytes of RXQ unless it ends the subscription (42_sequencer.md
R162, R163). -/
theorem Effect.busy_frame (he : Effect s i t) (hbusy : s.txBusy = true) (hrx : i.format ≠ .rxByte)
    (hrow : i.format ≠ .outbound) (hi : i ≠ .reset) :
    t = { s with
      finished := t.finished, subscribed := t.subscribed, txBusy := t.txBusy, closeReason := t.closeReason
      faultCause := t.faultCause, rxq := t.rxq, hostOut := t.hostOut } ∧
    (s.rxq <+: t.rxq ∨ (t.subscribed = false ∧ t.rxq = [])) := by
  cases he with
  | crcTold | headerTold | dataTold | abortIgnored | chunkDropped | writeDone | writeFailedLate =>
    exact ⟨rfl, .inl List.prefix_rfl⟩
  | chunkQueued => exact ⟨rfl, .inl (List.prefix_append _ _)⟩
  | aborted | writeFailed => exact ⟨rfl, .inr ⟨rfl, rfl⟩⟩
  | startRejected _ hidle | started _ hidle => exact absurd (hbusy.symm.trans hidle) nofun
  | reset => exact absurd rfl hi
  | wroteRow hout => exact absurd hout hrow
  | _ => exact absurd rfl hrx

end

/-- Settles O50: a step that writes runs in an enabled byte step, so that no write was outstanding. -/
theorem writesAreWholeAndOneAtATime : Obligations.WritesAreWholeAndOneAtATime := by
  intro s t h hstep
  refine (step_tx_cases h hstep).imp_right fun ⟨hready, _, hbusy, w, htx, hw⟩ => ?_
  obtain ⟨-, -, hidle, -⟩ := (byteReady_iff s).mp hready
  exact ⟨hidle, hbusy, w, htx, hw.whole h⟩

/-- Settles O52: the byte step is not enabled, so the step runs a command or an event, reads a register, or waits. -/
theorem noByteHandledDuringWrite : Obligations.NoByteHandledDuringWrite := by
  intro s t h hbusy hreset hstep
  rcases step_effect h.no_send_request hstep with ⟨i, rest, hi, hfmt, he⟩ | ⟨b, q, rest, -, hready, -⟩ |
    ⟨-, rest, rfl | ⟨r, v, rfl⟩⟩
  · obtain ⟨hrx, hrow⟩ := format_ne_of_event hfmt
    have hne : i ≠ .reset := fun e => hreset (e ▸ hi)
    obtain ⟨hframe, hrxq⟩ := he.busy_frame hbusy hrx hrow hne
    refine ⟨?_, ?_, ?_, ?_, ?_, ?_, ?_, hrxq⟩ <;> rw [hframe]
  · obtain ⟨-, -, hidle, -⟩ := (byteReady_iff s).mp hready
    exact absurd (hbusy.symm.trans hidle) nofun
  · exact ⟨rfl, rfl, rfl, rfl, rfl, rfl, rfl, .inl List.prefix_rfl⟩
  · exact ⟨rfl, rfl, rfl, rfl, rfl, rfl, rfl, .inl List.prefix_rfl⟩

end Sys2Proof.Machine
end

section
/-! Proofs: inbound chunks (20_memory.md R59; 42_sequencer.md R163). -/

namespace Sys2Proof.Machine

/-- A subscribed block queues a chunk (42_sequencer.md R163). -/
theorem exec_rxChunk_of_subscribed {bytes : Bytes} {s : State} (hne : bytes ≠ []) (hsub : s.subscribed = true) :
    exec (.rxChunk bytes) s = .next { s with rxq := s.rxq ++ bytes } := by
  simp [exec, execRxChunk, hne, hsub]

/-- A block that is not subscribed drops a chunk (42_sequencer.md R162). -/
theorem exec_rxChunk_of_unsubscribed {bytes : Bytes} {s : State} (hne : bytes ≠ []) (hsub : s.subscribed = false) :
    exec (.rxChunk bytes) s = .next s := by
  simp [exec, execRxChunk, hne, hsub]

/-- Settles O35: a subscribed block appends both parts to RXQ, and a block that is not subscribed drops both. -/
theorem chunkBoundariesDoNotMatter : Obligations.ChunkBoundariesDoNotMatter := by
  intro a b s ha hb
  have hab : a ++ b ≠ [] := List.append_ne_nil_of_left_ne_nil ha b
  cases hsub : s.subscribed with
  | true =>
    refine ⟨_, exec_rxChunk_of_subscribed ha hsub, ?_⟩
    rw [exec_rxChunk_of_subscribed (s := { s with rxq := s.rxq ++ a }) hb hsub, exec_rxChunk_of_subscribed hab hsub,
      List.append_assoc]
  | false =>
    refine ⟨s, exec_rxChunk_of_unsubscribed ha hsub, ?_⟩
    rw [exec_rxChunk_of_unsubscribed hb hsub, exec_rxChunk_of_unsubscribed hab hsub]

end Sys2Proof.Machine
end

section
/-! Proofs: the decoder against the encoder (30_encoding.md R71, R73, R77, R78, R85, R86). -/

namespace Sys2Proof.Machine

/-! ### Frames as byte strings -/

/-- A frame determines its marker, its sequence and its payload (30_encoding.md R73). -/
theorem frame_inj {marker marker' seq seq' : Byte} {payload payload' : Bytes} :
    frame marker seq payload = frame marker' seq' payload' ↔ marker = marker' ∧ seq = seq' ∧ payload = payload' := by
  refine ⟨fun h => ?_, fun ⟨hm, hs, hp⟩ => by rw [hm, hs, hp]⟩
  rw [frame_eq, frame_eq] at h
  obtain ⟨hm, hs, -, hrest⟩ : marker = marker' ∧ seq = seq' ∧ _ ∧ _ := by simpa only [List.cons.injEq] using h
  exact ⟨hm, hs, (List.append_inj' hrest rfl).1⟩

/-- No frame is as short as EOT (30_encoding.md R74, R77). -/
theorem frame_ne_eotString (marker seq : Byte) (payload : Bytes) : frame marker seq payload ≠ eotString := by
  intro h
  have hlen : payload.length + 5 = 1 := (frame_length ..).symm.trans (congrArg List.length h)
  omega

theorem eosFrame_ne_eotString : eosFrame ≠ eotString := eosFrame_eq_frame ▸ frame_ne_eotString _ _ _

/-- A byte string whose complement and CRC agree with its sequence and payload is a frame (30_encoding.md R73). -/
theorem eq_frame_of_checks {marker seq cseq : Byte} {rest : Bytes} {p : Nat} (hcomp : cseq = 0xFF#8 - seq)
    (hcrc : rest.drop p = crcField (crc16 (rest.take p))) :
    marker :: seq :: cseq :: rest = frame marker seq (rest.take p) := by
  rw [frame_eq, ← hcomp, ← hcrc, List.take_append_drop]

/-! ### The TX stream -/

theorem payloadLength_eq_some {marker : Byte} {p : Nat} (h : payloadLength marker = some p) :
    marker = Config.markerShort ∧ p = Config.shortPayload ∨ marker = Config.markerLong ∧ p = Config.longPayload := by
  unfold payloadLength at h
  split at h
  · next hm => exact .inl ⟨hm, (Option.some.inj h).symm⟩
  · split at h
    · next hm => exact .inr ⟨hm, (Option.some.inj h).symm⟩
    · cases h

theorem decodeTx_eosFrame : decodeTx eosFrame = .ok .eos := by
  unfold decodeTx
  rw [if_neg eosFrame_ne_eotString, if_pos rfl]

/-- The instruction of a frame's row: the marker tells the two layouts apart (30_encoding.md R73). -/
def frameInstr (marker seq : Byte) (payload : Bytes) : Instr :=
  if marker = Config.markerShort then .soh128 seq payload else .stx1024 seq payload

/-- A frame of the length its marker selects decodes to its row, unless it is the one called EOS (30_encoding.md R74,
R78). -/
theorem decodeTx_frame {marker seq : Byte} {payload : Bytes} (hp : payloadLength marker = some payload.length)
    (hne : frame marker seq payload ≠ eosFrame) :
    decodeTx (frame marker seq payload) = .ok (frameInstr marker seq payload) := by
  unfold decodeTx
  rw [if_neg (frame_ne_eotString marker seq payload), if_neg hne, frame_eq]
  simp only [hp, List.take_left, List.drop_left, List.length_append, crcField_length, ne_eq, not_true_eq_false,
    if_false]
  exact (apply_ite Except.ok ..).symm

/-- The encoding of a frame's row is the frame (30_encoding.md R73). -/
theorem encode_frameInstr {marker : Byte} {p : Nat} (h : payloadLength marker = some p) (seq : Byte) (payload : Bytes) :
    encode (frameInstr marker seq payload) = .txBytes (frame marker seq payload) := by
  rcases payloadLength_eq_some h with ⟨rfl, -⟩ | ⟨rfl, -⟩ <;> rfl

theorem shortFrame_ne_eosFrame {seq : Byte} {payload : Bytes} (h : shortFrameOk seq payload = true) :
    frame Config.markerShort seq payload ≠ eosFrame := by
  rw [eosFrame_eq_frame, Ne, frame_inj]
  rintro ⟨-, rfl, rfl⟩
  simp [shortFrameOk] at h

theorem longFrame_ne_eosFrame (seq : Byte) (payload : Bytes) : frame Config.markerLong seq payload ≠ eosFrame := by
  rw [eosFrame_eq_frame, Ne, frame_inj]
  exact fun h => absurd h.1 (by decide)

/-- What decodes as an outbound string is the encoding of the instruction read (30_encoding.md R73, R74). -/
theorem encode_of_decodeTx {bs : Bytes} {i : Instr} (h : decodeTx bs = .ok i) : encode i = .txBytes bs := by
  unfold decodeTx at h
  split_ifs at h with heot heos
  · cases h
    rw [heot]
    rfl
  · cases h
    rw [heos]
    rfl
  · split at h
    · next marker seq cseq rest =>
      split at h
      · cases h
      · next p hp =>
        split_ifs at h with hlen hcomp hcrc hm
        all_goals
          rw [eq_frame_of_checks (not_not.mp hcomp) (not_not.mp hcrc), ← encode_frameInstr hp, ← Except.ok.inj h,
            frameInstr]
        · rw [if_pos hm]
        · rw [if_neg hm]
    · cases h

/-! ### Inbound bytes, host commands and channel events -/

/-- An inbound byte decodes to the instruction it encodes (30_encoding.md R71). -/
theorem encode_decodeRx (b : Byte) : encode (decodeRx b) = .rxByte b := by
  unfold decodeRx
  split_ifs with hC hAck hNak hCa
  · rw [hC]; rfl
  · rw [hAck]; rfl
  · rw [hNak]; rfl
  · rw [hCa]; rfl
  · rfl

/-- A byte of RX_OTHER is none of the four control bytes, so it decodes to RX_OTHER (30_encoding.md R71, R72). -/
theorem decodeRx_of_rxOtherOk {b : Byte} (h : rxOtherOk b = true) : decodeRx b = .rxOther b := by
  simp only [rxOtherOk, Bool.and_eq_true, bne_iff_ne] at h
  obtain ⟨⟨⟨hC, hAck⟩, hNak⟩, hCa⟩ := h
  rw [decodeRx, if_neg hC, if_neg hAck, if_neg hNak, if_neg hCa]

/-- What decodes as a host command is the encoding of the instruction read, unless it is a CRC command with its seed
left out (30_encoding.md R85; 40_crc.md R104). -/
theorem encode_of_decodeHost {op : Byte} {args : List Operand} {i : Instr} (h : decodeHost op args = .ok i) :
    encode i = .hostCmd op args ∨
      ∃ buf start len, op = 0x01#8 ∧ args = [.bytes buf, .nat start, .nat len] ∧ i = .crc buf start len 0 := by
  unfold decodeHost at h
  split_ifs at h with hcrc hheader hdata hstart habort
  · split at h
    · exact .inr ⟨_, _, _, hcrc, rfl, (Except.ok.inj h).symm⟩
    · exact .inl (by cases h; rw [hcrc]; rfl)
    · cases h
  · split at h
    · exact .inl (by cases h; rw [hheader]; rfl)
    · cases h
  · split at h
    · exact .inl (by cases h; rw [hdata]; rfl)
    · cases h
  · split at h
    · exact .inl (by cases h; rw [hstart]; rfl)
    · cases h
  · split at h
    · exact .inl (by cases h; rw [habort]; rfl)
    · cases h

/-- What decodes as a channel event is the encoding of the instruction read (30_encoding.md R86). -/
theorem encode_of_decodeChan {ev : Byte} {args : List Operand} {i : Instr} (h : decodeChan ev args = .ok i) :
    encode i = .chanEvt ev args := by
  unfold decodeChan at h
  split_ifs at h with hchunk hdone
  · split at h
    · cases h; rw [hchunk]; rfl
    · cases h
  · split at h
    · cases h; rw [hdone]; rfl
    · cases h; rw [hdone]; rfl
    · cases h

/-- A command code outside the table is reserved, whatever its operands (30_encoding.md R85). -/
theorem decodeHost_reserved {op : Byte} (args : List Operand)
    (h : op ∉ [0x01#8, 0x02#8, 0x03#8, 0x10#8, 0x11#8]) : decodeHost op args = .error (.reservedCommand op) := by
  simp only [List.mem_cons, List.not_mem_nil, or_false, not_or] at h
  obtain ⟨hcrc, hheader, hdata, hstart, habort⟩ := h
  unfold decodeHost
  rw [if_neg hcrc, if_neg hheader, if_neg hdata, if_neg hstart, if_neg habort]

/-- An encoded form with no instruction is refused (60_exceptions.md R203). -/
theorem step_of_undecoded {s t : State} {raw : Raw} {e : DecodeError} (hs : s.sendReq = none)
    (hn : nextInput s = .run raw t) (hd : decode raw = .error e) : step s = .refused (.notDecoded e) := by
  simp [step, fetch_of_noSend hs, hn, hd]

/-! ### The statements -/

/-- Settles O5: each row of the tables is read back as it is written; a frame is cut at its payload's length and is not
the one called EOS. -/
theorem decodeEncodeRoundTrip : Obligations.DecodeEncodeRoundTrip := by
  intro i hwf
  cases i with
  | rxOther b => exact congrArg Except.ok (decodeRx_of_rxOtherOk hwf)
  | soh128 seq payload =>
    have hlen : payload.length = Config.shortPayload := by
      simp only [Instr.wf, shortFrameOk, Bool.and_eq_true, beq_iff_eq] at hwf
      exact hwf.1
    exact decodeTx_frame (marker := Config.markerShort) (hlen ▸ rfl) (shortFrame_ne_eosFrame hwf)
  | stx1024 seq payload =>
    have hlen : payload.length = Config.longPayload := beq_iff_eq.mp hwf
    exact decodeTx_frame (marker := Config.markerLong) (hlen ▸ rfl) (longFrame_ne_eosFrame seq payload)
  | eos => exact decodeTx_eosFrame
  | _ => rfl

/-- Settles O6: interface by interface, an accepted form is the encoding of what was read; only CRC has a second form,
with its seed left out. -/
theorem encodeDecodeIsCanonical : Obligations.EncodeDecodeIsCanonical := by
  intro raw i h
  cases raw with
  | rxByte b => exact .inl (Except.ok.inj h ▸ encode_decodeRx b)
  | hostCmd op args =>
    refine (encode_of_decodeHost h).imp_right ?_
    rintro ⟨buf, start, len, rfl, rfl, hi⟩
    exact ⟨buf, start, len, rfl, hi⟩
  | chanEvt ev args => exact .inl (encode_of_decodeChan h)
  | resetSignal => exact .inl (Except.ok.inj h ▸ rfl)
  | txBytes bs => exact .inl (encode_of_decodeTx h)

/-- Settles O1: the table is `decodeRx` with the names of its four bytes written out, and RX_OTHER is `notePrev`. -/
theorem rxByteDecoderIsTotal : Obligations.RxByteDecoderIsTotal :=
  fun _ => ⟨rfl, fun _ => rfl⟩

/-- Settles O2: the codes of the table decode as written, and a step that takes a reserved code has no instruction. -/
theorem hostCommandCodes : Obligations.HostCommandCodes := by
  refine ⟨fun _ _ _ _ => rfl, fun _ _ _ => rfl, fun _ _ => rfl, fun _ => rfl, fun _ _ => rfl, rfl, rfl, ?_⟩
  intro op args s rest hop hs hin
  exact step_of_undecoded hs (nextInput_host hin) (decodeHost_reserved args hop)

/-- Settles O3: the two codes decode as written, and RX_CHUNK tests its bytes first. -/
theorem channelEventCodes : Obligations.ChannelEventCodes :=
  ⟨fun _ => rfl, rfl, rfl, fun _ => rfl⟩

/-- Settles O4: the one-byte words are evaluated, and the frame written out is EOS. -/
theorem specWordsDecode : Obligations.SpecWordsDecode :=
  ⟨rfl, rfl, rfl, rfl, rfl, rfl, rfl, decodeTx_eosFrame⟩

/-- Settles O22: the 130 zeros of the constant are the payload and the CRC of a payload of zeros. -/
theorem eosFrameIsConstant : Obligations.EosFrameIsConstant :=
  ⟨rfl, eosFrame_length, (crc16_eq_fold _).trans (crcFold_zeros _)⟩

end Sys2Proof.Machine
end

section
/-! Proofs: the checksum engine against its feedback form, its adjacent ranges and polynomial division (40_crc.md R100
to R108). -/

namespace Sys2Proof.Machine

/-! ### The shift is linear, and the feedback form -/

theorem crcBit_eq_xor (c : CrcWord) : crcBit c = (c <<< 1) ^^^ (if c.msb then Config.crcPoly else 0#16) := by
  cases h : c.msb <;> simp [crcBit, h]

/-- A shift of a sum over GF(2) is the sum of the shifts (40_crc.md R100). -/
theorem crcBit_xor (c d : CrcWord) : crcBit (c ^^^ d) = crcBit c ^^^ crcBit d := by
  have hpoly (a b : Bool) : (if (a ^^ b) then Config.crcPoly else 0#16)
      = (if a then Config.crcPoly else 0#16) ^^^ (if b then Config.crcPoly else 0#16) := by
    cases a <;> cases b <;> decide
  simp only [crcBit_eq_xor, BitVec.msb_xor, BitVec.shiftLeft_xor_distrib, hpoly]
  ac_rfl

/-- Any number of shifts is linear over GF(2). -/
theorem crcBit_iterate_xor (n : Nat) (c d : CrcWord) : crcBit^[n] (c ^^^ d) = crcBit^[n] c ^^^ crcBit^[n] d :=
  Function.Semiconj₂.iterate crcBit_xor n c d

/-- Eight shifts move a low byte up: none of its bits reaches the top before (40_crc.md R100). -/
theorem crcBit_iterate_lowByte : ∀ x : Byte, crcBit^[8] (x.zeroExtend 16) = x.zeroExtend 16 <<< 8 := by
  decide +kernel

/-- Eight shifts of a high byte are the feedback form's three terms (40_crc.md R101). -/
theorem crcBit_iterate_highByte :
    ∀ x : Byte, crcBit^[8] (x.zeroExtend 16 <<< 8) = crcStepFeedback 0#16 x := by
  decide +kernel

/-- A byte added to the register lands on its high byte (40_crc.md R100). -/
theorem xor_byte_eq_hi_lo (c : CrcWord) (b : Byte) :
    c ^^^ (b.zeroExtend 16 <<< 8) = (crcLo c).zeroExtend 16 ^^^ ((crcHi c ^^^ b).zeroExtend 16 <<< 8) := by
  ext i hi
  by_cases h : i < 8
  · simp [crcLo, crcHi, h, hi]
  · have hlow : i - 8 < 8 := by omega
    have hback : 8 + (i - 8) = i := by omega
    simp [crcLo, crcHi, h, hlow, hback, BitVec.getLsbD_eq_getElem hi]

theorem crcLo_shiftLeft (c : CrcWord) : (crcLo c).zeroExtend 16 <<< 8 = c <<< 8 := by
  ext i hi
  have hlow : i - 8 < 8 := by omega
  have hin : i - 8 < 16 := by omega
  simp [crcLo, hlow, BitVec.getLsbD_eq_getElem hin]

/-- The feedback form depends on the high byte and the input only through their sum (40_crc.md R101). -/
theorem crcStepFeedback_eq (c : CrcWord) (b : Byte) :
    crcStepFeedback c b = (c <<< 8) ^^^ crcStepFeedback 0#16 (crcHi c ^^^ b) := by
  simp [crcStepFeedback, crcHi, BitVec.xor_assoc]

/-! ### Adjacent ranges -/

/-- A range is read in two adjacent parts (20_memory.md R50). -/
theorem memRead_add (space : Bytes) (a m n : Nat) :
    memRead space a (m + n) = memRead space a m ++ memRead space (a + m) n := by
  simp [memRead, List.take_add]

/-- The CRC of a range is the CRC of its second part, seeded with that of its first (40_crc.md R105). -/
theorem crc_add (buf : Bytes) (a m n : Nat) (seed : CrcWord) :
    crc buf a (m + n) seed = crc buf (a + m) n (crc buf a m seed) := by
  simp only [crc, memRead_add, crcFold_append]

/-! ### Polynomial division -/

theorem messageNat_concat (p : Bytes) (b : Byte) : messageNat (p ++ [b]) = messageNat p * 256 + b.toNat := by
  simp [messageNat]

theorem crc16_concat (p : Bytes) (b : Byte) : crc16 (p ++ [b]) = crcStep (crc16 p) b := by
  simp [crc16_eq_fold, crcFold_append]

theorem gfMul_concat (q : List Bool) (b : Bool) (g : Nat) :
    gfMul (q ++ [b]) g = (2 * gfMul q g) ^^^ (if b then g else 0) := by
  simp [gfMul]

/-- `c` is what is left of the polynomial `m` modulo the generator: their sum over GF(2) is a multiple of it
(40_crc.md R100). -/
def IsRemainder (m : Nat) (c : CrcWord) : Prop := ∃ q : List Bool, m = gfMul q crcGenerator ^^^ c.toNat

theorem two_mul_xor (a b : Nat) : 2 * (a ^^^ b) = (2 * a) ^^^ (2 * b) := by
  simpa [Nat.shiftLeft_eq, Nat.mul_comm] using Nat.shiftLeft_xor_distrib (a := a) (b := b) (i := 1)

/-- Below a multiple of 2ⁿ a sum has no carries. -/
theorem two_pow_mul_xor_of_lt {n x : Nat} (h : x < 2 ^ n) (a : Nat) : (2 ^ n * a) ^^^ x = 2 ^ n * a + x := by
  refine Nat.eq_of_testBit_eq fun i => ?_
  rw [Nat.testBit_xor, Nat.testBit_two_pow_mul, Nat.testBit_two_pow_mul_add a h i]
  by_cases hi : i < n
  · simp [hi, Nat.not_le.mpr hi]
  · have hle : n ≤ i := by omega
    simp [hi, hle, Nat.testBit_lt_two_pow (h.trans_le (Nat.pow_le_pow_right (by decide) hle))]

/-- A shift is multiplication by x, less the generator when x¹⁶ comes up (40_crc.md R100). -/
theorem two_mul_toNat_eq (c : CrcWord) :
    2 * c.toNat = (if c.msb then crcGenerator else 0) ^^^ (crcBit c).toNat := by
  have hlt := c.isLt
  have hshift : (c <<< 1).toNat = 2 * c.toNat % 2 ^ 16 := by
    rw [BitVec.toNat_shiftLeft, Nat.shiftLeft_eq, Nat.pow_one, Nat.mul_comm]
  cases h : c.msb with
  | false =>
    have hlow := BitVec.msb_eq_false_iff_two_mul_lt.mp h
    rw [crcBit, h, if_neg Bool.false_ne_true, if_neg Bool.false_ne_true, hshift, Nat.zero_xor, Nat.mod_eq_of_lt hlow]
  | true =>
    have hhigh := BitVec.msb_eq_true_iff_two_mul_ge.mp h
    have hgen : crcGenerator = 2 ^ 16 * 1 ^^^ Config.crcPoly.toNat := by decide
    have hcarry := two_pow_mul_xor_of_lt (Nat.mod_lt (2 * c.toNat) (Nat.two_pow_pos 16)) 1
    rw [crcBit, h, if_pos rfl, if_pos rfl, BitVec.toNat_xor, hshift, hgen, ← Nat.xor_assoc,
      Nat.xor_right_comm _ Config.crcPoly.toNat, Nat.xor_xor_cancel_right, hcarry]
    omega

/-- A shift keeps the remainder of the polynomial times x. -/
theorem isRemainder_crcBit {m : Nat} {c : CrcWord} (h : IsRemainder m c) : IsRemainder (2 * m) (crcBit c) := by
  obtain ⟨q, rfl⟩ := h
  exact ⟨q ++ [c.msb], by rw [gfMul_concat, two_mul_xor, two_mul_toNat_eq, Nat.xor_assoc]⟩

theorem isRemainder_crcBit_iterate {m : Nat} {c : CrcWord} (h : IsRemainder m c) (n : Nat) :
    IsRemainder (2 ^ n * m) (crcBit^[n] c) := by
  induction n with
  | zero => simpa using h
  | succ n ih =>
    rw [Function.iterate_succ_apply', Nat.pow_succ', Nat.mul_assoc]
    exact isRemainder_crcBit ih

/-- A byte appended to the message is added at x⁸ and then moved up by eight shifts (40_crc.md R100). -/
theorem append_byte_shifted (m : Nat) (b : Byte) :
    (m * 256 + b.toNat) * 2 ^ 16 = 2 ^ 8 * ((m * 2 ^ 16) ^^^ (b.zeroExtend 16 <<< 8).toNat) := by
  have hb := b.isLt
  have hbyte : (b.zeroExtend 16 <<< 8).toNat = b.toNat * 2 ^ 8 := by
    rw [BitVec.toNat_shiftLeft, BitVec.toNat_setWidth_of_le (by decide), Nat.shiftLeft_eq, Nat.mod_eq_of_lt (by omega)]
  rw [hbyte, Nat.mul_comm m (2 ^ 16), two_pow_mul_xor_of_lt (by omega)]
  omega

/-- `crc_step` keeps the remainder when a byte is appended (40_crc.md R100). -/
theorem isRemainder_crcStep {m : Nat} {c : CrcWord} (h : IsRemainder (m * 2 ^ 16) c) (b : Byte) :
    IsRemainder ((m * 256 + b.toNat) * 2 ^ 16) (crcStep c b) := by
  obtain ⟨q, hq⟩ := h
  rw [append_byte_shifted, hq]
  refine isRemainder_crcBit_iterate ⟨q, ?_⟩ 8
  rw [BitVec.toNat_xor, Nat.xor_assoc]

/-- The engine's value is the remainder of x¹⁶ times the message (40_crc.md R100, R107). -/
theorem isRemainder_crc16 (p : Bytes) : IsRemainder (messageNat p * 2 ^ 16) (crc16 p) := by
  induction p using List.reverseRecOn with
  | nil => exact ⟨[], rfl⟩
  | append_singleton p b ih =>
    rw [messageNat_concat, crc16_concat]
    exact isRemainder_crcStep ih b

/-! ### The command -/

/-- With its operands in range CRC tells the host the fold and does nothing else (40_crc.md R102). -/
theorem execCrc_of_inRange {buf : Bytes} {start len seed : Nat} (hrange : start + len ≤ buf.length)
    (hseed : seed ≤ 0xFFFF) (s : State) :
    execCrc buf start len seed s = .next (emit (.crcValue (crc buf start len (BitVec.ofNat 16 seed))) s) :=
  if_neg (by omega)

/-- With a range past the end or a seed above 0xFFFF CRC is refused (40_crc.md R106). -/
theorem execCrc_of_outOfRange {buf : Bytes} {start len seed : Nat} (h : buf.length < start + len ∨ 0xFFFF < seed)
    (s : State) : execCrc buf start len seed s = .refused .crcOperands :=
  if_pos h

/-! ### The statements -/

/-- Settles O7: eight shifts are linear, so the low byte only moves up and the high byte plus the input gives the
feedback terms. -/
theorem crcFeedbackFormAgrees : Obligations.CrcFeedbackFormAgrees := by
  intro c b
  symm
  calc crcStep c b
      = crcBit^[8] ((crcLo c).zeroExtend 16) ^^^ crcBit^[8] ((crcHi c ^^^ b).zeroExtend 16 <<< 8) := by
        rw [crcStep, xor_byte_eq_hi_lo, crcBit_iterate_xor]
    _ = (c <<< 8) ^^^ crcStepFeedback 0#16 (crcHi c ^^^ b) := by
        rw [crcBit_iterate_lowByte, crcBit_iterate_highByte, crcLo_shiftLeft]
    _ = crcStepFeedback c b := (crcStepFeedback_eq c b).symm

/-- Settles O8: the code decodes with and without a seed, and the operand check splits completion from refusal. -/
theorem crcCommand : Obligations.CrcCommand := by
  intro buf start len seed s
  refine ⟨rfl, rfl, fun hrange hseed => ?_, fun h => execCrc_of_outOfRange h s⟩
  refine (execCrc_of_inRange hrange hseed s).trans ?_
  rw [crc, crcFold_eq_foldl]
  rfl

/-- Settles O9: the whole range is the two parts after each other. -/
theorem crcIsIncremental : Obligations.CrcIsIncremental := by
  intro buf a b c seed hab hbc _
  have hlen : c - a = (b - a) + (c - b) := by omega
  rw [hlen, crc_add, Nat.add_sub_cancel' hab]

/-- Settles O10: each zero byte leaves the zero remainder as it is. -/
theorem crcOfZerosIsZero : Obligations.CrcOfZerosIsZero :=
  fun n => (crc16_eq_fold _).trans (crcFold_zeros n)

/-- Settles O11: by induction on the message, byte after byte, each byte eight shifts. -/
theorem crcIsPolynomialRemainder : Obligations.CrcIsPolynomialRemainder := isRemainder_crc16

end Sys2Proof.Machine
end

section
/-! Proofs: the decimal spelling of a size (41_framer.md R122; 20_memory.md R55). -/

namespace Sys2Proof.Machine

/-- The fuel does not matter once it is at least the number. -/
theorem decDigits_eq_of_le {f g n : Nat} (hf : n ≤ f) (hg : n ≤ g) : decDigits f n = decDigits g n := by
  induction f generalizing g n with
  | zero =>
    obtain rfl : n = 0 := Nat.le_zero.mp hf
    cases g <;> rfl
  | succ f ih =>
    cases g with
    | zero =>
      obtain rfl : n = 0 := Nat.le_zero.mp hg
      rfl
    | succ g => rw [decDigits, decDigits, ih (g := g) (n := n / 10) (by omega) (by omega)]

/-- A number below ten is one digit (41_framer.md R122). -/
theorem dec_of_lt {n : Nat} (h : n < 10) : dec n = [decDigit n] := by
  cases n with
  | zero => rfl
  | succ n => rw [dec, decDigits, if_pos h]

/-- A greater number is its tenth with one more digit (41_framer.md R122). -/
theorem dec_of_ge {n : Nat} (h : 10 ≤ n) : dec n = dec (n / 10) ++ [decDigit n] := by
  cases n with
  | zero => omega
  | succ n => rw [dec, decDigits, if_neg (by omega), dec, decDigits_eq_of_le (by omega) le_rfl]

/-- What holds of a single digit, and of a number when it holds of its tenth, holds of every spelling. -/
theorem dec_induction {P : Nat → Bytes → Prop} (digit : ∀ n, n < 10 → P n [decDigit n])
    (append : ∀ n, 10 ≤ n → P (n / 10) (dec (n / 10)) → P n (dec (n / 10) ++ [decDigit n])) (n : Nat) :
    P n (dec n) := by
  induction n using Nat.strongRecOn with
  | ind n ih =>
    rcases Nat.lt_or_ge n 10 with h | h
    · exact dec_of_lt h ▸ digit n h
    · exact dec_of_ge h ▸ append n h (ih (n / 10) (by omega))

theorem decDigit_toNat (n : Nat) : (decDigit n).toNat = 0x30 + n % 10 := by
  simp only [decDigit, BitVec.toNat_ofNat]
  omega

theorem decDigit_isDigit (n : Nat) : 0x30#8 ≤ decDigit n ∧ decDigit n ≤ 0x39#8 := by
  rw [BitVec.le_def, BitVec.le_def, decDigit_toNat]
  simp only [BitVec.toNat_ofNat]
  omega

theorem decValue_concat (ds : Bytes) (d : Byte) : decValue (ds ++ [d]) = decValue ds * 10 + (d.toNat - 0x30) := by
  simp [decValue]

/-- The spelling of a number reads as the number (41_framer.md R122, R133). -/
theorem decValue_dec (n : Nat) : decValue (dec n) = n := by
  refine dec_induction (P := fun n ds => decValue ds = n) (fun n h => ?digit) (fun n h ih => ?append) n
  case digit =>
    rw [← List.nil_append [_], decValue_concat, decDigit_toNat]
    simp only [decValue, List.foldl_nil]
    omega
  case append =>
    rw [decValue_concat, ih, decDigit_toNat]
    omega

/-- A spelling holds ASCII digits only (41_framer.md R122). -/
theorem isDigit_of_mem_dec (n : Nat) : ∀ d ∈ dec n, 0x30#8 ≤ d ∧ d ≤ 0x39#8 := by
  refine dec_induction (P := fun _ ds => ∀ d ∈ ds, 0x30#8 ≤ d ∧ d ≤ 0x39#8) (fun n _ => ?digit)
    (fun n _ ih => ?append) n
  case digit => exact List.forall_mem_singleton.mpr (decDigit_isDigit n)
  case append => exact List.forall_mem_append.mpr ⟨ih, List.forall_mem_singleton.mpr (decDigit_isDigit n)⟩

theorem dec_ne_nil (n : Nat) : dec n ≠ [] := decDigits_ne_nil n n

/-- Only zero begins with the digit 0 (41_framer.md R122). -/
theorem eq_zero_of_head_dec (n : Nat) : (dec n).head? = some 0x30#8 → n = 0 := by
  refine dec_induction (P := fun n ds => ds.head? = some 0x30#8 → n = 0) (fun n h hd => ?digit)
    (fun n h ih hd => ?append) n
  case digit =>
    have htoNat : (decDigit n).toNat = 0x30 := congrArg BitVec.toNat (Option.some.inj hd)
    rw [decDigit_toNat] at htoNat
    omega
  case append =>
    rw [List.head?_append_of_ne_nil _ (dec_ne_nil _)] at hd
    have := ih hd
    omega

/-- A number below 10ᵏ⁺¹ has at most k + 1 digits (41_framer.md R122). -/
theorem dec_length_le (n : Nat) : ∀ k, n < 10 ^ (k + 1) → (dec n).length ≤ k + 1 := by
  refine dec_induction (P := fun n ds => ∀ k, n < 10 ^ (k + 1) → ds.length ≤ k + 1) (fun _ _ k _ => ?digit)
    (fun n h ih k hk => ?append) n
  case digit => exact Nat.succ_le_succ (Nat.zero_le k)
  case append =>
    cases k with
    | zero => omega
    | succ k =>
      rw [List.length_append, List.length_singleton]
      exact Nat.succ_le_succ (ih k (Nat.div_lt_of_lt_mul (Nat.pow_succ' ▸ hk)))

/-- Settles O16: by induction on the number's tenths, each part a lemma about the digit appended. -/
theorem decimalSpelling : Obligations.DecimalSpelling := fun n =>
  ⟨decValue_dec n, isDigit_of_mem_dec n, eq_zero_of_head_dec n, List.length_pos_of_ne_nil (dec_ne_nil n),
    fun h => dec_length_le n 9 (by omega), rfl⟩

end Sys2Proof.Machine
end

section
/-! Proofs: the header's checks, its payload and BUILD_HEADER (41_framer.md R121, R123, R124, R133). -/

namespace Sys2Proof.Machine

/-! ### The checks and the command -/

/-- The second check is for a name that is empty or holds a zero byte (41_framer.md R121). -/
theorem badName_iff (name : Bytes) :
    (name.isEmpty || name.contains 0x00#8) = true ↔ name = [] ∨ 0x00#8 ∈ name := by
  simp

/-- Settles O13: each check is reached when the ones before it pass. -/
theorem headerChecksInOrder : Obligations.HeaderChecksInOrder := by
  intro name size
  unfold headerFault
  have passSize (hsize : size ≤ 4294967295) : ¬ Config.maxFileBytes < size := Nat.not_lt.mpr hsize
  have passName (hne : name ≠ []) (hzero : 0x00#8 ∉ name) : ¬ (name.isEmpty || name.contains 0x00#8) = true :=
    (badName_iff name).not.mpr (not_or.mpr ⟨hne, hzero⟩)
  have passLength (hlen : name.length ≤ 123) : ¬ Config.maxName < name.length := Nat.not_lt.mpr hlen
  refine ⟨fun hsize => ?tooLarge, fun hsize hname => ?invalid, fun hsize hne hzero hlong => ?tooLong,
    fun hsize hne hzero hlen hover => ?overflow, fun hsize hne hzero hlen hfit => ?accepted⟩
  case tooLarge => exact if_pos hsize
  case invalid => rw [if_neg (passSize hsize), if_pos ((badName_iff name).mpr hname)]
  case tooLong =>
    rw [if_neg (passSize hsize), if_neg (passName hne hzero)]
    exact if_pos hlong
  case overflow =>
    rw [if_neg (passSize hsize), if_neg (passName hne hzero), if_neg (passLength hlen)]
    exact if_pos hover
  case accepted =>
    rw [if_neg (passSize hsize), if_neg (passName hne hzero), if_neg (passLength hlen)]
    exact if_neg (Nat.not_lt.mpr hfit)

/-- A rejected header is the fault of its failing check (41_framer.md R124). -/
theorem buildHeader_of_fault {name : Bytes} {size : Nat} {c : FaultCause} (h : headerFault name size = some c) :
    buildHeader name size = .error c := by
  rw [buildHeader, h]

/-- A header that builds is told to the host (41_framer.md R124). -/
theorem execBuildHeader_of_ok {name f : Bytes} {size : Nat} (h : buildHeader name size = .ok f) (s : State) :
    execBuildHeader name size s = .next (emit (.header f) s) := by
  rw [execBuildHeader, h]

/-- A header that does not build is told as its fault (60_exceptions.md R202). -/
theorem execBuildHeader_of_error {name : Bytes} {size : Nat} {c : FaultCause} (h : buildHeader name size = .error c)
    (s : State) : execBuildHeader name size s = .next (emit (.commandFault c) s) := by
  rw [execBuildHeader, h]

/-- Settles O14: the command tells the host what the build answers. -/
theorem buildHeaderCommand : Obligations.BuildHeaderCommand := fun _ _ s =>
  ⟨rfl, fun haccepted => execBuildHeader_of_ok (buildHeader_of_accepted haccepted) s,
    fun _ hfault => execBuildHeader_of_error (buildHeader_of_fault hfault) s⟩

/-! ### The payload -/

/-- The payload is the name, a zero byte, the size, a space and zeros up to 128 bytes (41_framer.md R123). -/
theorem hdrPayload_eq (name : Bytes) (size : Nat) :
    hdrPayload name size = name ++ [0x00#8] ++ dec size ++ [0x20#8]
      ++ rep 0x00#8 (128 - (name.length + (dec size).length + 2)) := by
  have hfields : (name ++ [0x00#8] ++ dec size ++ [0x20#8]).length = name.length + (dec size).length + 2 := by
    simp only [List.length_append, List.length_singleton]
    omega
  rw [← hfields]
  rfl

/-- Settles O15: the checks bound the fields, and the payload is filled up to its length. -/
theorem headerPayloadLayout : Obligations.HeaderPayloadLayout := by
  intro name size h
  obtain ⟨-, hne, -, hname, hfit⟩ := headerFault_none h
  replace hfit : name.length + (dec size).length + 2 ≤ 128 := by
    rw [Config.shortPayload] at hfit
    omega
  exact ⟨List.length_pos_of_ne_nil hne, hname, hfit, hdrPayload_eq name size, hdrPayload_length h,
    isDigit_of_mem_dec size⟩

section
variable {l : Bytes} {b : Byte} (h : b ∉ l) (r : Bytes)
include h

/-- Up to its first `b` a string is what stands before it. -/
theorem takeWhile_ne_append : (l ++ b :: r).takeWhile (· != b) = l := by
  rw [List.takeWhile_append_of_pos fun a ha => bne_iff_ne.mpr (ne_of_mem_of_not_mem ha h),
    List.takeWhile_cons_of_neg (by simp), List.append_nil]

/-- From its first `b` on a string is that byte and what follows it. -/
theorem dropWhile_ne_append : (l ++ b :: r).dropWhile (· != b) = b :: r := by
  rw [List.dropWhile_append_of_pos fun a ha => bne_iff_ne.mpr (ne_of_mem_of_not_mem ha h),
    List.dropWhile_cons_of_neg (by simp)]

end

/-- The space that ends the size is no digit (20_memory.md R55). -/
theorem space_not_mem_dec (n : Nat) : 0x20#8 ∉ dec n := fun h => absurd (isDigit_of_mem_dec n _ h).1 (by decide)

/-- Settles O17: an accepted name holds no zero byte and a size no space, so each ends where it is written to end. -/
theorem headerParsesBack : Obligations.HeaderParsesBack := by
  intro name size h
  obtain ⟨-, -, hzero, -, -⟩ := headerFault_none h
  rw [hdrPayload_eq]
  simp only [List.append_assoc, List.cons_append, List.nil_append]
  rw [takeWhile_ne_append hzero, dropWhile_ne_append hzero, List.drop_one, List.tail_cons,
    takeWhile_ne_append (space_not_mem_dec size)]
  exact ⟨rfl, decValue_dec size⟩

end Sys2Proof.Machine
end

section
/-! Proofs: the file's chunks, its data frames and BUILD_DATA (41_framer.md R125 to R128, R132). -/

namespace Sys2Proof.Machine

/-! ### The chunks -/

/-- A chunk is up to 1024 bytes from its place on (41_framer.md R125). -/
theorem chunk_eq (buf : Bytes) (k : Nat) : chunk buf k = (buf.drop ((k - 1) * 1024)).take 1024 := by
  rw [chunk, memRead, ← List.length_drop, ← List.take_eq_take_min]
  rfl

theorem chunk_length (buf : Bytes) (k : Nat) : (chunk buf k).length = min 1024 (buf.length - (k - 1) * 1024) := by
  rw [chunk_eq, List.length_take, List.length_drop]

/-- The number of chunks is the length over 1024, rounded up (41_framer.md R125). -/
theorem chunkCount_eq (n : Nat) : chunkCount n = (n + 1023) / 1024 := rfl

/-- Settles O18: a chunk ends where the next begins, or with the file. -/
theorem chunkLengths : Obligations.ChunkLengths := by
  intro buf
  have hcount := chunkCount_eq buf.length
  refine ⟨?empty, fun hne => ?ceiling, fun k hk hlt => ?full, fun k hk hlast => ?last, fun k hk hle => ?slice⟩
  case empty => rintro rfl; rfl
  case ceiling =>
    have := List.length_pos_of_ne_nil hne
    omega
  case full =>
    rw [chunk_length]
    omega
  case last =>
    rw [chunk_length]
    omega
  case slice =>
    rw [chunk_eq, List.drop_take, List.take_eq_take_iff, List.length_drop]
    omega

/-- The chunks up to `n` are the file up to their end (41_framer.md R125). -/
theorem flatten_chunks (buf : Bytes) (n : Nat) :
    ((List.range n).map fun j => chunk buf (j + 1)).flatten = buf.take (n * 1024) := by
  induction n with
  | zero => rfl
  | succ n ih =>
    rw [List.range_succ, List.map_append, List.flatten_append, ih, Nat.succ_mul, List.take_add, List.map_singleton,
      List.flatten_singleton, chunk_eq, Nat.add_sub_cancel]

/-! ### The data frames -/

theorem dataFrames_getElem? {buf : Bytes} {j : Nat} (h : j < chunkCount buf.length) :
    (dataFrames buf)[j]? = some (dataFrame buf (j + 1)) := by
  simp [dataFrames, h]

/-- A frame's payload, up to its padding, is the piece that was padded (41_framer.md R126). -/
theorem take_payload_frame_padded (marker seq : Byte) (piece : Bytes) (n : Nat) :
    ((frame marker seq (padded piece n)).drop 3).take piece.length = piece := by
  rw [frame_eq, padded, List.append_assoc]
  exact List.take_left

/-- A data frame's payload begins with its chunk, in either layout (41_framer.md R126). -/
theorem take_payload_dataFrame (buf : Bytes) (k : Nat) :
    ((dataFrame buf k).drop 3).take (chunk buf k).length = chunk buf k := by
  simp only [dataFrame]
  split
  · exact take_payload_frame_padded ..
  · exact take_payload_frame_padded ..

/-- Settles O20: the frames' payloads begin with the chunks, and the chunks cover the file. -/
theorem dataPacketsReassemble : Obligations.DataPacketsReassemble := by
  intro buf
  have hchunks (j : Nat) (hj : j ∈ List.range (chunkCount buf.length)) :
      (((dataFrames buf).getD j []).drop 3).take (min 1024 (buf.length - j * 1024)) = chunk buf (j + 1) := by
    have hlen := chunk_length buf (j + 1)
    rw [Nat.add_sub_cancel] at hlen
    rw [List.getD_eq_getElem?_getD, dataFrames_getElem? (List.mem_range.mp hj), Option.getD_some, ← hlen,
      take_payload_dataFrame]
  rw [List.map_congr_left hchunks, flatten_chunks, List.take_of_length_le]
  have := chunkCount_eq buf.length
  omega

/-! ### The command -/

theorem buildData_of_large {buf : Bytes} (h : 4294967295 < buf.length) : buildData buf = .error .fileTooLarge :=
  if_pos h

theorem buildData_of_fits {buf : Bytes} (h : buf.length ≤ 4294967295) : buildData buf = .ok (dataFrames buf) :=
  if_neg (Nat.not_lt.mpr h)

/-- Frames that build are told to the host (41_framer.md R128). -/
theorem execBuildData_of_ok {buf : Bytes} {fs : List Bytes} (h : buildData buf = .ok fs) (s : State) :
    execBuildData buf s = .next (emit (.data fs) s) := by
  rw [execBuildData, h]

/-- Frames that do not build are told as their fault (60_exceptions.md R202). -/
theorem execBuildData_of_error {buf : Bytes} {c : FaultCause} (h : buildData buf = .error c) (s : State) :
    execBuildData buf s = .next (emit (.commandFault c) s) := by
  rw [execBuildData, h]

/-- A sequence byte is the frame's number modulo 256 (41_framer.md R127). -/
theorem ofNat_mod_256 (k : Nat) : BitVec.ofNat 8 (k % 256) = BitVec.ofNat 8 k :=
  BitVec.eq_of_toNat_eq (by simp)

/-- Settles O19: the command tells the host what the build answers, with frame `k` at place `k - 1`. -/
theorem buildDataCommand : Obligations.BuildDataCommand := by
  intro buf s
  refine ⟨rfl, fun hlarge => execBuildData_of_error (buildData_of_large hlarge) s, fun hfits =>
    ⟨dataFrames buf, execBuildData_of_ok (buildData_of_fits hfits) s, dataFrames_length buf, ?frames⟩⟩
  case frames =>
    intro k hk hle piece hpiece
    rw [dataFrames_length] at hle ⊢
    rw [dataFrames_getElem? (by omega), Nat.sub_add_cancel hk, hpiece, ← chunk_eq, ofNat_mod_256]
    rfl

end Sys2Proof.Machine
end

section
/-! Proofs: the layout of a frame and the consistency of every frame built (41_framer.md R120, R134). -/

namespace Sys2Proof.Machine

/-- The checksum field follows the payload (41_framer.md R120). -/
theorem frame_getElem?_crcField (marker seq : Byte) (payload : Bytes) (i : Nat) :
    (frame marker seq payload)[payload.length + 3 + i]? = (crcField (crc16 payload))[i]? := by
  rw [frame, List.getElem?_append_right (by simp), List.length_append, Nat.add_comm payload.length]
  exact congrArg _ (Nat.add_sub_cancel_left ..)

/-- Settles O12: a frame is its three leading bytes, its payload and its checksum, so each index falls into one part. -/
theorem frameLayout : Obligations.FrameLayout := by
  intro marker seq payload _
  have hpayload : ((frame marker seq payload).drop 3).take payload.length = payload := by
    rw [frame_eq]
    exact List.take_left
  exact ⟨frame_length .., rfl, rfl, rfl, hpayload, frame_getElem?_crcField marker seq payload 0,
    frame_getElem?_crcField marker seq payload 1⟩

/-- A byte and its complement add up to 0xFF (30_encoding.md R75). -/
theorem toNat_add_complement (seq : Byte) : seq.toNat + (0xFF#8 - seq).toNat = 0xFF := by
  have := seq.isLt
  rw [BitVec.toNat_sub, BitVec.toNat_ofNat]
  omega

/-- What is laid out as a frame has its sequence and complement in place (30_encoding.md R75). -/
theorem complement_of_isFrame {f : Bytes} (h : isFrame f = true) :
    (f.getD 1 0#8).toNat + (f.getD 2 0#8).toNat = 0xFF := by
  unfold isFrame at h
  split at h
  · next marker seq cseq rest =>
    simp only [Bool.and_eq_true, beq_iff_eq] at h
    obtain ⟨⟨-, hcseq⟩, -⟩ := h
    exact hcseq ▸ toNat_add_complement seq
  · cases h

/-- A header that builds is a frame (41_framer.md R124). -/
theorem isFrame_of_buildHeader {name f : Bytes} {size : Nat} (h : buildHeader name size = .ok f) :
    isFrame f = true := by
  cases hc : headerFault name size with
  | some c => cases (buildHeader_of_fault hc).symm.trans h
  | none =>
    cases (buildHeader_of_accepted hc).symm.trans h
    exact isFrame_frame (.inl ⟨rfl, hdrPayload_length hc⟩)

/-- Settles O21: each of the three sources gives a frame, and a frame has its complement. -/
theorem builtFramesAreConsistent : Obligations.BuiltFramesAreConsistent := by
  intro f hf
  have hframe : isFrame f = true := by
    rcases hf with ⟨name, size, h⟩ | ⟨buf, h⟩ | rfl
    · exact isFrame_of_buildHeader h
    · obtain ⟨j, -, rfl⟩ := List.mem_map.mp h
      exact isFrame_dataFrame buf (j + 1)
    · exact isFrame_eosFrame
  exact ⟨hframe, complement_of_isFrame hframe⟩

end Sys2Proof.Machine
end

section
/-! Proofs: what each instruction of the sequencer answers, one equation per branch of its rule (42_sequencer.md R150 to
R169), and the statements assembled from them. -/

namespace Sys2Proof.Machine

section
variable {s : State}

/-! ### START and ABORT -/

theorem exec_start_of_running {name file : Bytes} (h : s.subscribed = true ∨ s.txBusy = true) :
    exec (.start name file) s = .refused .startNotAllowed :=
  if_pos (by simpa using h)

theorem exec_start_of_fault {name file : Bytes} {c : FaultCause} (hsub : s.subscribed = false)
    (hbusy : s.txBusy = false) (hc : headerFault name file.length = some c) :
    exec (.start name file) s = .next (startFault c s) := by
  rw [exec, execStart, if_neg (by simp [hsub, hbusy]), buildPackets_of_fault hc]

theorem exec_start_of_accepted {name file : Bytes} (hsub : s.subscribed = false) (hbusy : s.txBusy = false)
    (hc : headerFault name file.length = none) :
    exec (.start name file) s =
      .next (beginTransfer name file (frame Config.markerShort 0#8 (hdrPayload name file.length) :: dataFrames file) s) := by
  rw [exec, execStart, if_neg (by simp [hsub, hbusy]), buildPackets_of_accepted hc]

theorem exec_abort_of_unsubscribed (hsub : s.subscribed = false) : exec .abort s = .next s :=
  if_pos (by simp [hsub])

theorem exec_abort_of_subscribed (hsub : s.subscribed = true) :
    exec .abort s = .next { endTransfer s with closeReason := .aborted } :=
  if_neg (by simp [hsub])

/-! ### The packet at the cursor -/

/-- With COUNT frames in PKT, a cursor below COUNT stands at one of them (10_state.md R23). -/
theorem exists_pkt_of_lt (h : s.pkt.length = s.count.toNat) {k : Nat} (hk : k < s.count.toNat) :
    ∃ f, s.pkt[k]? = some f :=
  ⟨_, List.getElem?_eq_getElem (h ▸ hk)⟩

/-- With SENDING = 1, SENDPACKET writes what stands at the cursor in the packets followed by EOT (42_sequencer.md
R164). -/
theorem sendPacket_of_sending {w : Bytes} (h : s.pkt.length = s.count.toNat) (hsend : s.sending = true)
    (hw : (s.pkt ++ [eotString])[s.cursor.toNat]? = some w) : sendPacket s = .next (txWrite w s) := by
  by_cases hc : s.cursor < s.count
  · rw [List.getElem?_append_left (h ▸ hc)] at hw
    exact sendPacket_frame hc hw
  · rw [List.getElem?_append_right (h ▸ BitVec.not_lt.mp hc)] at hw
    obtain rfl : w = eotString := List.mem_singleton.mp (List.mem_of_getElem? hw)
    exact sendPacket_eot hc hsend

/-- The debounce test, as propositions (42_sequencer.md R155). -/
theorem prevIsC_iff : s.prevIsC = true ↔ s.prevValid = true ∧ s.prevByte = Config.byteC := by
  simp [State.prevIsC]

/-! ### Control bytes -/

theorem exec_rxC_past (hc : s.count ≤ s.cursor) :
    exec .rxC s = .next (notePrev Config.byteC (txWrite eosFrame s)) :=
  if_pos hc

theorem exec_rxC_sends {f : Bytes} (hc : s.cursor < s.count) (hprev : s.prevIsC = false)
    (hf : s.pkt[s.cursor.toNat]? = some f) :
    exec .rxC s = .next (notePrev Config.byteC { txWrite f s with sending := true }) := by
  rw [exec, execRxC, if_neg (BitVec.not_le.mpr hc), if_pos (by simp [hprev]), sendPacket_frame hc hf, andThen_next]

theorem exec_rxC_debounced (hc : s.cursor < s.count) (hprev : s.prevIsC = true) :
    exec .rxC s = .next (notePrev Config.byteC s) := by
  rw [exec, execRxC, if_neg (BitVec.not_le.mpr hc), if_neg (by simp [hprev])]

theorem exec_rxAck_closes (hsend : s.sending = false) :
    exec .rxAck s = .next (notePrev Config.byteAck (close .finalAck s)) := by
  rw [exec, execRxAck, ackReaction, if_pos (by simp [hsend]), andThen_next]

theorem exec_rxAck_header (hsend : s.sending = true) (hcur : s.cursor = 0#32) :
    exec .rxAck s = .next (notePrev Config.byteAck { s with cursor := 1#32 }) := by
  rw [exec, execRxAck, ackReaction, if_neg (by simp [hsend]), if_pos hcur, andThen_next]

/-- The ACK of data packet CURSOR is answered by what stands at the next cursor: the packet there, or EOT
(42_sequencer.md R156, R164). -/
theorem exec_rxAck_data {w : Bytes} (h : s.pkt.length = s.count.toNat) (hsend : s.sending = true)
    (hcur : s.cursor ≠ 0#32) (hc : s.cursor < s.count)
    (hw : (s.pkt ++ [eotString])[s.cursor.toNat + 1]? = some w) :
    exec .rxAck s = .next (notePrev Config.byteAck (txWrite w { s with
      written := BitVec.ofNat 32 (min (s.cursor.toNat * Config.ackStride) s.total.toNat)
      cursor := s.cursor + 1#32 })) := by
  rw [← toNat_add_one_of_lt hc] at hw
  rw [exec, execRxAck, ackReaction, if_neg (by simp [hsend]), if_neg hcur, if_pos hc]
  exact congrArg (andThen · (notePrev Config.byteAck))
    (sendPacket_of_sending (s := { s with written := _, cursor := s.cursor + 1#32 }) h hsend hw)

theorem exec_rxAck_eot (hsend : s.sending = true) (hcur : s.cursor ≠ 0#32) (hc : s.count ≤ s.cursor) :
    exec .rxAck s = .next (notePrev Config.byteAck { s with sending := false, sessionActive := false }) := by
  have hpast : ¬ s.cursor < s.count := BitVec.not_lt.mpr hc
  rw [exec, execRxAck, ackReaction, if_neg (by simp [hsend]), if_neg hcur, if_neg hpast,
    sendPacket_nothing (s := { s with sending := false, sessionActive := false }) hpast rfl, andThen_next]

theorem exec_rxNak_packet {f : Bytes} (hc : s.cursor < s.count) (hf : s.pkt[s.cursor.toNat]? = some f) :
    exec .rxNak s = .next (notePrev Config.byteNak (txWrite f s)) := by
  rw [exec, execRxNak, sendPacket_frame hc hf, andThen_next]

theorem exec_rxNak_eot (hc : s.count ≤ s.cursor) (hsend : s.sending = true) :
    exec .rxNak s = .next (notePrev Config.byteNak (txWrite eotString s)) := by
  rw [exec, execRxNak, sendPacket_eot (BitVec.not_lt.mpr hc) hsend, andThen_next]

theorem exec_rxNak_ignored (hc : s.count ≤ s.cursor) (hsend : s.sending = false) :
    exec .rxNak s = .next (notePrev Config.byteNak s) := by
  rw [exec, execRxNak, sendPacket_nothing (BitVec.not_lt.mpr hc) hsend, andThen_next]

/-! ### WRITE_DONE -/

theorem exec_writeDoneOk_of_busy (hbusy : s.txBusy = true) : exec .writeDoneOk s = .next { s with txBusy := false } :=
  if_neg (by simp [hbusy])

theorem exec_writeDoneFail_of_open (hbusy : s.txBusy = true) (hfin : s.finished = false) :
    exec .writeDoneFail s = .next (takeFault .ioError (endTransfer { s with txBusy := false })) := by
  rw [exec, execWriteDoneFail, if_neg (by simp [hbusy]), if_neg (by simp [hfin])]

theorem exec_writeDoneFail_of_finished (hbusy : s.txBusy = true) (hfin : s.finished = true) :
    exec .writeDoneFail s = .next { s with txBusy := false } := by
  rw [exec, execWriteDoneFail, if_neg (by simp [hbusy]), if_pos hfin]

end

/-! ### Commands and events: the statements -/

/-- Settles O23: a running block refuses, and an idle one does what the header check answers. -/
theorem startCommand : Obligations.StartCommand := by
  intro name file s
  refine ⟨rfl, exec_start_of_running, fun c hsub hbusy hc => exec_start_of_fault hsub hbusy hc,
    fun hsub hbusy hc => ?accepted⟩
  case accepted =>
    rw [exec_start_of_accepted hsub hbusy hc, Nat.add_comm 1]
    rfl

/-- Settles O24: with an accepted header START begins the transfer, and its COUNT fits in 32 bits. -/
theorem afterSuccessfulStart : Obligations.AfterSuccessfulStart := by
  intro name file s t hc hexec
  cases exec_effect hexec with
  | wroteRow hrow => cases hrow
  | startRejected _ _ hfault => cases hc.symm.trans hfault
  | started _ hbusy _ =>
    have hsize : file.length ≤ 4294967295 := (headerFault_none hc).1
    have hchunks := chunkCount_le hsize
    have hcount : (BitVec.ofNat 32 ((dataFrames file).length + 1)).toNat = 1 + (file.length + 1023) / 1024 := by
      rw [BitVec.toNat_ofNat, dataFrames_length, ← chunkCount_eq]
      omega
    have htotal : (BitVec.ofNat 32 file.length).toNat = file.length := by
      rw [BitVec.toNat_ofNat]
      omega
    exact ⟨rfl, rfl, hcount, htotal, rfl, rfl, rfl, rfl, hbusy, rfl, rfl, rfl, rfl, rfl, rfl, rfl⟩

/-- Settles O25: ABORT tests SUBSCRIBED, which it clears. -/
theorem abortCommand : Obligations.AbortCommand :=
  fun _ => ⟨rfl, exec_abort_of_unsubscribed, exec_abort_of_subscribed⟩

/-- Settles O34: the empty chunk is tested first, then SUBSCRIBED. -/
theorem rxChunkEvent : Obligations.RxChunkEvent :=
  fun _ _ => ⟨rfl, fun hnil => hnil ▸ rfl, exec_rxChunk_of_subscribed, exec_rxChunk_of_unsubscribed⟩

/-- Settles O36: the completion is tested for an outstanding write. -/
theorem writeDoneOkEvent : Obligations.WriteDoneOkEvent :=
  fun _ => ⟨rfl, fun hidle => if_pos (by simp [hidle]), exec_writeDoneOk_of_busy⟩

/-- Settles O37: the completion is tested for an outstanding write, then for a finished transfer. -/
theorem writeDoneFailEvent : Obligations.WriteDoneFailEvent :=
  fun _ => ⟨rfl, fun hidle => if_pos (by simp [hidle]), exec_writeDoneFail_of_open, exec_writeDoneFail_of_finished⟩

/-- Settles O38: a payload of the length its marker needs passes the row's test, and each row is one TX_WRITE. -/
theorem outboundRowsWrite : Obligations.OutboundRowsWrite :=
  fun _ _ _ => ⟨fun hshort => if_pos hshort, fun hlong => if_pos hlong, rfl, rfl⟩

/-! ### Control bytes: the statements -/

/-- Settles O28: the cursor against COUNT, then the debounce test; a C right after a C leaves PREV as it is. -/
theorem rxCReaction : Obligations.RxCReaction := by
  intro s hpkt
  refine ⟨rfl, exec_rxC_past, fun hc hprev => ?sends, fun hc hvalid hbyte => ?debounced⟩
  case sends =>
    obtain ⟨f, hf⟩ := exists_pkt_of_lt hpkt hc
    exact ⟨f, hf, exec_rxC_sends hc (Bool.eq_false_iff.mpr (prevIsC_iff.not.mpr hprev)) hf⟩
  case debounced =>
    have hsame : notePrev Config.byteC s = s := by rw [notePrev, ← hvalid, Config.byteC, ← hbyte]
    rw [exec_rxC_debounced hc (prevIsC_iff.mpr ⟨hvalid, hbyte⟩), hsame]

/-- Settles O29: SENDING, then the cursor against 0 and against COUNT; past the last packet SENDPACKET writes EOT. -/
theorem rxAckReaction : Obligations.RxAckReaction := by
  intro s hpkt
  refine ⟨rfl, fun hsend hfin => ?closes, fun hsend hfin => ?closed, exec_rxAck_header, fun hsend hcur hc => ?data,
    exec_rxAck_eot⟩
  case closes =>
    rw [exec_rxAck_closes hsend, close_of_open hfin]
    rfl
  case closed =>
    rw [exec_rxAck_closes hsend, close_of_finished hfin]
    rfl
  case data =>
    have hnext : s.cursor + 1#32 = BitVec.ofNat 32 (s.cursor.toNat + 1) := by
      rw [BitVec.ofNat_add, BitVec.ofNat_toNat, BitVec.setWidth_eq]
    have hin : s.cursor.toNat + 1 < (s.pkt ++ [eotString]).length := by
      rw [List.length_append, hpkt]
      exact Nat.succ_lt_succ hc
    obtain ⟨w, hw⟩ : ∃ w, (s.pkt ++ [eotString])[s.cursor.toNat + 1]? = some w := ⟨_, List.getElem?_eq_getElem hin⟩
    refine ⟨w, fun hmore => ?packet, fun hlast => ?eot, ?answer⟩
    case packet => rwa [List.getElem?_append_left (hpkt ▸ hmore)] at hw
    case eot =>
      rw [hlast, ← hpkt, List.getElem?_concat_length] at hw
      exact (Option.some.inj hw).symm
    case answer =>
      rw [exec_rxAck_data hpkt hsend hcur hc hw, hnext]
      rfl

/-- Settles O30: NAK is SENDPACKET, which has these three branches. -/
theorem rxNakReaction : Obligations.RxNakReaction := by
  intro s hpkt
  refine ⟨rfl, fun hc => ?packet, exec_rxNak_eot, exec_rxNak_ignored⟩
  case packet =>
    obtain ⟨f, hf⟩ := exists_pkt_of_lt hpkt hc
    exact ⟨f, hf, exec_rxNak_packet hc hf⟩

/-- Settles O31: CA is CLOSE, which tests FINISHED. -/
theorem rxCaReaction : Obligations.RxCaReaction := by
  refine fun s => ⟨rfl, fun hfin => ?closes, fun hfin => ?closed⟩
  case closes =>
    rw [exec, execRxCa, close_of_open hfin]
    rfl
  case closed =>
    rw [exec, execRxCa, close_of_finished hfin]
    rfl

/-- Settles O32: the byte is none of the four, so the debounce test that follows it fails. -/
theorem rxOtherReaction : Obligations.RxOtherReaction := by
  intro b s hC hAck hNak hCa
  have hok : rxOtherOk b = true := by
    simp [rxOtherOk, Config.byteC, Config.byteAck, Config.byteNak, Config.byteCa, hC, hAck, hNak, hCa]
  have hprev : ¬ (true = true ∧ b = Config.byteC) := fun h => hC h.2
  exact ⟨congrArg Except.ok (decodeRx_of_rxOtherOk hok), rfl, Bool.eq_false_iff.mpr (prevIsC_iff.not.mpr hprev)⟩

end Sys2Proof.Machine
end

section
/-! Proofs: when the byte step runs, and what placing an encoded form makes the next step run (42_sequencer.md R154,
R170; log 3, 4, 7). -/

namespace Sys2Proof.Machine

section
variable {s : State} {rest : List Input}

/-- With an empty inbox, or a turn at its head, the block takes its turn (log 4). -/
theorem nextInput_turn (h : s.inbox = [] ∧ rest = [] ∨ s.inbox = .turn :: rest) :
    nextInput s = byteTurn { s with inbox := rest } := by
  rcases h with ⟨hin, rfl⟩ | hin
  · rw [with_own_inbox hin, nextInput, hin]
  · rw [nextInput, hin]

/-- A block that is ready takes the head of RXQ off (42_sequencer.md R154). -/
theorem byteTurn_of_ready {b : Byte} {q : Bytes} (hready : s.byteReady = true) (hq : s.rxq = b :: q) :
    byteTurn s = .run (.rxByte b) { s with rxq := q } := by
  rw [byteTurn, if_pos hready, hq, popRx, hq, List.tail_cons]

/-- In its turn a block that is ready handles the head of RXQ (42_sequencer.md R154). -/
theorem step_turn_of_ready {b : Byte} {q : Bytes} (hs : s.sendReq = none)
    (hin : s.inbox = [] ∧ rest = [] ∨ s.inbox = .turn :: rest) (hready : s.byteReady = true) (hq : s.rxq = b :: q) :
    step s = exec (decodeRx b) { s with inbox := rest, rxq := q } := by
  have hrun := byteTurn_of_ready (s := { s with inbox := rest }) hready hq
  exact step_of_nextInput hs ((nextInput_turn hin).trans hrun) rfl

/-- In its turn a block that is not ready holds (42_sequencer.md R170). -/
theorem step_turn_of_held (hs : s.sendReq = none) (hin : s.inbox = [] ∧ rest = [] ∨ s.inbox = .turn :: rest)
    (hheld : ¬ s.byteReady = true) : step s = .next { s with inbox := rest } := by
  have hwait : byteTurn { s with inbox := rest } = .wait { s with inbox := rest } := if_neg hheld
  rw [step, fetch_of_noSend hs, nextInput_turn hin, hwait]

end

/-- Settles O40: the turn is the byte step, which is enabled by these four tests and otherwise waits. -/
theorem byteStepEnabledExactly : Obligations.ByteStepEnabledExactly := by
  intro s rest hs hin
  refine ⟨fun b q hsub hfin hbusy hq => ?ready, fun hheld => ?held⟩
  case ready =>
    exact step_turn_of_ready hs hin ((byteReady_iff s).mpr ⟨hsub, hfin, hbusy, by simp [hq]⟩) hq
  case held => exact step_turn_of_held hs hin ((byteReady_iff s).not.mpr hheld)

/-- What decodes from a table word is read from an encoded form (log 6). -/
theorem decodeTableWord_eq_some {nbits w : Nat} {i : Instr} (h : decodeTableWord nbits w = some i) :
    ∃ raw, rawOfTableWord nbits w = some raw ∧ decode raw = .ok i := by
  unfold decodeTableWord at h
  split at h
  · next raw hraw =>
    split at h
    · next j hj => exact ⟨raw, hraw, hj.trans (congrArg Except.ok (Option.some.inj h))⟩
    · cases h
  · cases h

/-- A placed form is what the next step fetches, in a state that differs only in SUBSCRIBED, FINISHED, TX_BUSY and the
send request (log 7). -/
theorem fetch_placeRaw (raw : Raw) (s : State) :
    ∃ t : State, fetch (placeRaw raw s) = .run raw t
      ∧ t = { s with subscribed := t.subscribed, finished := t.finished, txBusy := t.txBusy, sendReq := none } := by
  cases raw with
  | rxByte | hostCmd | chanEvt | resetSignal | txBytes => exact ⟨_, rfl, rfl⟩

/-- Settles O41: the word's encoded form is placed where the step fetches, and the step runs what it decodes to. -/
theorem fetchWordRunsTableInstruction : Obligations.FetchWordRunsTableInstruction := by
  intro s nbits w i h
  obtain ⟨raw, hraw, hdecode⟩ := decodeTableWord_eq_some h
  obtain ⟨t, hfetch, ht⟩ := fetch_placeRaw raw s
  refine ⟨t, ?_, ht⟩
  rw [State.withFetchWord, hraw]
  exact step_of_run hfetch hdecode

/-- Settles O51: a step that writes is an enabled byte step, and writes what is sendable at the cursor it leaves. -/
theorem writesAnswerInboundBytes : Obligations.WritesAnswerInboundBytes := by
  intro s t h hstep hne
  obtain ⟨hready, hrxq, -, w, htx, hw⟩ := (step_tx_cases h hstep).resolve_left hne
  obtain ⟨hsub, hfin, -⟩ := (byteReady_iff s).mp hready
  refine ⟨hsub, hfin, hrxq, ?_⟩
  rcases hw with rfl | rfl | hpacket
  · exact .inl htx
  · exact .inr (.inl htx)
  · exact .inr (.inr ⟨w, hpacket, htx⟩)

end Sys2Proof.Machine
end

section
/-! Proofs: how a transfer ends: DONE, final states and their outcome, and success (42_sequencer.md R157, R166, R172,
R173). -/

namespace Sys2Proof.Machine

/-! ### DONE -/

/-- What CLOSE delivers, told of the states before and after it (42_sequencer.md R166). -/
def Delivers (s t : State) : Prop :=
  s.finished = false ∧ t.finished = true ∧ t.resultValid = true
    ∧ (t.closeReason = .finalAck ∨ t.closeReason = .cancel)
    ∧ t.hostOut = s.hostOut ++ [.done ⟨t.resultName, t.resultTotal, t.resultWritten⟩]
    ∧ t.resultName = s.name ∧ t.resultTotal = s.total ∧ t.resultWritten = s.written

section
variable {s t : State}

/-- CLOSE tells the host nothing, or delivers (42_sequencer.md R166). -/
theorem close_delivers {r : CloseReason} (hr : r = .finalAck ∨ r = .cancel) (b : Byte) :
    doneCount (notePrev b (close r s)) = doneCount s ∨ Delivers s (notePrev b (close r s)) := by
  cases hfin : s.finished with
  | true =>
    rw [close_of_finished hfin]
    exact .inl rfl
  | false =>
    rw [close_of_open hfin]
    exact .inr ⟨hfin, rfl, rfl, hr, rfl, rfl, rfl, rfl⟩

/-- Only the two control bytes that close can deliver (60_exceptions.md R206). -/
theorem Effect.done_cases {i : Instr} (he : Effect s i t) : doneCount t = doneCount s ∨ Delivers s t := by
  cases he with
  | crcTold ho | headerTold ho | dataTold ho => exact .inl (doneCount_emit ho)
  | startRejected => exact .inl (doneCount_emit nofun)
  | writeFailed => exact .inl (doneCount_emit nofun)
  | ackCloses => exact close_delivers (.inl rfl) _
  | caCloses => exact close_delivers (.inr rfl) _
  | _ => exact .inl rfl

end

/-- Settles O56: whatever the step runs, only CLOSE tells the host of a DONE. -/
theorem doneIsDeliveredByClosing : Obligations.DoneIsDeliveredByClosing := by
  intro s t h hstep
  rcases step_effect h.no_send_request hstep with ⟨i, rest, -, -, he⟩ | ⟨b, q, rest, -, -, -, he⟩ |
    ⟨-, rest, rfl | ⟨r, v, rfl⟩⟩
  · exact he.done_cases
  · exact he.done_cases
  · exact .inl rfl
  · exact .inl (doneCount_emit nofun)

/-! ### Final states and their outcome -/

section
variable {s : State}

/-- The second row of the phase table (10_state.md R38). -/
theorem phase_eq_rejected_iff :
    s.phase = some .rejected ↔ s.subscribed = false ∧ s.finished = false ∧ s.faultCause ≠ .none := by
  rw [phase_eq]
  constructor
  · intro h
    by_contra hother
    rw [if_neg hother] at h
    split_ifs at h <;> cases h
  · intro h
    rw [if_neg fun hidle => h.2.2 hidle.2.2, if_pos h]

/-- The final states, with the phase's condition written out (42_sequencer.md R173). -/
theorem final_iff :
    s.final = true ↔ (s.finished = true ∧ s.txBusy = false)
      ∨ (s.subscribed = false ∧ s.finished = false ∧ s.faultCause ≠ .none) := by
  rw [← phase_eq_rejected_iff]
  simp [State.final]

theorem runOutcome_of_not_final (hfinal : s.final = false) : s.runOutcome = none := by
  simp [State.runOutcome, hfinal]

theorem runOutcome_of_result (hfinal : s.final = true) (hvalid : s.resultValid = true) :
    s.runOutcome = some (.done ⟨s.resultName, s.resultTotal, s.resultWritten⟩) := by
  simp [State.runOutcome, hfinal, hvalid]

theorem runOutcome_of_aborted (hfinal : s.final = true) (hvalid : s.resultValid = false)
    (hreason : s.closeReason = .aborted) : s.runOutcome = some .aborted := by
  simp [State.runOutcome, hfinal, hvalid, hreason]

theorem runOutcome_of_fault (hfinal : s.final = true) (hvalid : s.resultValid = false)
    (hreason : s.closeReason = .none) (hfault : s.faultCause ≠ .none) :
    s.runOutcome = some (.fault s.faultCause) := by
  simp [State.runOutcome, hfinal, hvalid, hreason, hfault]

/-- Only a DONE is the outcome of a state with a valid RESULT (42_sequencer.md R173). -/
theorem resultValid_of_runOutcome_done {r : Result} (h : s.runOutcome = some (.done r)) :
    s.final = true ∧ s.resultValid = true ∧ r = ⟨s.resultName, s.resultTotal, s.resultWritten⟩ := by
  unfold State.runOutcome at h
  split_ifs at h with hopen hvalid
  · cases h
    exact ⟨by simpa using hopen, hvalid, rfl⟩
  · cases h
  · cases h

/-- A transfer succeeded when it is final with a RESULT that counts every byte (42_sequencer.md R172). -/
theorem succeeded_iff :
    s.succeeded = true ↔ s.final = true ∧ s.resultValid = true ∧ s.resultWritten = s.resultTotal := by
  constructor
  · intro h
    unfold State.succeeded at h
    split at h
    · next r hr =>
      obtain ⟨hfinal, hvalid, rfl⟩ := resultValid_of_runOutcome_done hr
      exact ⟨hfinal, hvalid, eq_of_beq h⟩
    · cases h
  · rintro ⟨hfinal, hvalid, hall⟩
    simp [State.succeeded, runOutcome_of_result hfinal hvalid, hall]

/-- RESULT is not valid when no CLOSE has ended the transfer (10_state.md R42 item 6). -/
theorem resultValid_of_not_closed (h : s.Inv) (hack : s.closeReason ≠ .finalAck) (hcancel : s.closeReason ≠ .cancel) :
    s.resultValid = false :=
  Bool.eq_false_iff.mpr fun hvalid => (h.result_closed hvalid).2.elim hack hcancel

/-- Each way to finish, and a START that faulted, leaves an outcome (42_sequencer.md R173). -/
theorem outcome_of_final (h : s.Inv) (hfinal : s.final = true) :
    s.resultValid = true ∨ s.closeReason = .aborted ∨ s.faultCause ≠ .none := by
  rcases final_iff.mp hfinal with ⟨hfin, -⟩ | ⟨-, -, hfault⟩
  · cases hreason : s.closeReason with
    | finalAck => exact .inl (h.closed_result (.inl hreason))
    | cancel => exact .inl (h.closed_result (.inr hreason))
    | aborted => exact .inr (.inl rfl)
    | none =>
      have hio : s.faultCause = .ioError := (h.finished_why hfin).resolve_left (absurd hreason)
      exact .inr (.inr (hio ▸ nofun))
  · exact .inr (.inr hfault)

theorem not_final_of_subscribed (h : s.Inv) (hsub : s.subscribed = true) : s.final = false := by
  have hopen := h.subscribed_open hsub
  exact Bool.eq_false_iff.mpr (final_iff.not.mpr (by simp [hsub, hopen]))

end

/-- Settles O58: the invariants make the three outcomes exclude each other and leave no final state without one. -/
theorem finalStatesHaveAnOutcome : Obligations.FinalStatesHaveAnOutcome := by
  intro s h
  refine ⟨final_iff, not_final_of_subscribed h, outcome_of_final h, runOutcome_of_result, fun hfinal haborted => ?aborted,
    fun hfinal hfault => ?fault, runOutcome_of_not_final, succeeded_iff, fun hsucceeded => ?written⟩
  case aborted =>
    have hvalid := resultValid_of_not_closed h (haborted ▸ nofun) (haborted ▸ nofun)
    exact runOutcome_of_aborted hfinal hvalid haborted
  case fault =>
    have hreason := h.fault_no_reason hfault
    have hvalid := resultValid_of_not_closed h (hreason ▸ nofun) (hreason ▸ nofun)
    exact runOutcome_of_fault hfinal hvalid hreason hfault
  case written =>
    obtain ⟨-, hvalid, hall⟩ := succeeded_iff.mp hsucceeded
    obtain ⟨-, htotal, hwritten⟩ := h.result_eq hvalid
    rw [← hwritten, hall, htotal]

/-! ### Success -/

/-- The chunks cover the file (41_framer.md R125). -/
theorem le_chunkCount_mul (size : Nat) : size ≤ chunkCount size * 1024 := by
  rw [chunkCount_eq]
  omega

/-- Past the last packet WRITTEN is TOTAL (42_sequencer.md R157). -/
theorem written_eq_total_of_end {s : State} (h : s.Inv) (hcount : s.count ≠ 0#32) (hend : s.cursor = s.count) :
    s.written = s.total := by
  have hcover := le_chunkCount_mul s.total.toNat
  refine BitVec.eq_of_toNat_eq ?_
  rw [h.written_eq, hend, h.count_eq hcount, Nat.add_sub_cancel_left, Config.ackStride, min_eq_right hcover]

/-- CLOSE of a running transfer with every byte written, and no write outstanding, ends it in success (42_sequencer.md
R166, R172). -/
theorem succeeded_of_close {s : State} {r : CloseReason} (hopen : s.finished = false) (hbusy : s.txBusy = false)
    (hall : s.written = s.total) (b : Byte) :
    (notePrev b (close r s)).final = true ∧ (notePrev b (close r s)).succeeded = true := by
  rw [close_of_open hopen, succeeded_iff, final_iff]
  exact ⟨.inl ⟨rfl, hbusy⟩, .inl ⟨rfl, hbusy⟩, rfl, hall⟩

/-- Settles O59: an ACK with SENDING = 0 closes, and past the last packet every byte has been written. -/
theorem finalAckAtTheEndIsSuccess : Obligations.FinalAckAtTheEndIsSuccess := by
  intro s t h hsub hbusy hsend hend hexec
  have hall := written_eq_total_of_end h (h.subscribed_started hsub) hend
  cases (exec_rxAck_closes hsend).symm.trans hexec
  exact succeeded_of_close (h.subscribed_open hsub) hbusy hall _

end Sys2Proof.Machine
end

section
/-! Proofs: runs over a list of inputs, and the whole transfer to a receiver that takes every packet (42_sequencer.md
R155, R156, R164, R166; 95_test_vectors.md E5, E6). -/

namespace Sys2Proof.Machine

/-! ### Runs over inputs -/

/-- A run goes on from the state its first steps end in. -/
theorem runSteps_add {m : Nat} {s t : State} (n : Nat) (h : runSteps m s = .next t) :
    runSteps (m + n) s = runSteps n t := by
  induction m generalizing s with
  | zero =>
    cases h
    rw [Nat.zero_add]
  | succ m ih =>
    rw [Nat.succ_add, runSteps]
    unfold runSteps at h
    split at h
    · exact ih h
    · cases h
    · cases h

/-- Handling `inputs`, one step for each, takes the block from `s` to `t`, whatever stands behind them in the inbox. -/
def Runs (inputs : List Input) (s t : State) : Prop :=
  ∀ rest, runSteps inputs.length { s with inbox := inputs ++ rest } = .next { t with inbox := rest }

section
variable {s t u : State}

theorem Runs.nil (s : State) : Runs [] s s := fun _ => rfl

theorem Runs.append {as bs : List Input} (ha : Runs as s t) (hb : Runs bs t u) : Runs (as ++ bs) s u := by
  intro rest
  rw [List.length_append, List.append_assoc, runSteps_add _ (ha (bs ++ rest))]
  exact hb rest

theorem runs_of_step {i : Input} (h : ∀ rest, step { s with inbox := i :: rest } = .next { t with inbox := rest }) :
    Runs [i] s t := by
  intro rest
  simp only [List.length_singleton, List.singleton_append, runSteps, h rest]

/-- A host command is taken off the inbox and run. -/
theorem runs_hostCmd {op : Byte} {args : List Operand} {i : Instr} (hs : s.sendReq = none)
    (hd : decode (.hostCmd op args) = .ok i)
    (hexec : ∀ rest, exec i { s with inbox := rest } = .next { t with inbox := rest }) : Runs [.host op args] s t :=
  runs_of_step fun rest => (step_of_nextInput (s := { s with inbox := .host op args :: rest }) hs (nextInput_host rfl)
    hd).trans (hexec rest)

/-- A channel event is taken off the inbox and run. -/
theorem runs_chanEvt {ev : Byte} {args : List Operand} {i : Instr} (hs : s.sendReq = none)
    (hd : decode (.chanEvt ev args) = .ok i)
    (hexec : ∀ rest, exec i { s with inbox := rest } = .next { t with inbox := rest }) : Runs [.chan ev args] s t :=
  runs_of_step fun rest => (step_of_nextInput (s := { s with inbox := .chan ev args :: rest }) hs (nextInput_chan rfl)
    hd).trans (hexec rest)

/-- A block that waits for an inbound byte in a running transfer (42_sequencer.md R154). -/
structure Listening (s : State) : Prop where
  subscribed : s.subscribed = true
  not_finished : s.finished = false
  not_busy : s.txBusy = false
  rxq_empty : s.rxq = []
  no_send_request : s.sendReq = none
  pkt_length : s.pkt.length = s.count.toNat

/-- A byte delivered to a listening block is queued and, in the block's turn, handled (42_sequencer.md R154, R163). -/
theorem runs_deliver {b : Byte} (h : Listening s)
    (hexec : ∀ rest, exec (decodeRx b) { s with inbox := rest } = .next { t with inbox := rest }) :
    Runs (deliver b) s t := by
  have hchunk : Runs [.chan 0x20#8 [.bytes [b]]] s { s with rxq := s.rxq ++ [b] } :=
    runs_chanEvt h.no_send_request rfl fun _ => exec_rxChunk_of_subscribed (List.cons_ne_nil b []) h.subscribed
  have hturn : Runs [.turn] { s with rxq := s.rxq ++ [b] } t := by
    refine runs_of_step fun rest => ?_
    have hq : s.rxq ++ [b] = b :: s.rxq := by rw [h.rxq_empty, List.nil_append]
    have hready := (byteReady_iff { s with rxq := s.rxq ++ [b], inbox := .turn :: rest }).mpr
      ⟨h.subscribed, h.not_finished, h.not_busy, hq ▸ List.cons_ne_nil b s.rxq⟩
    exact (step_turn_of_ready (s := { s with rxq := s.rxq ++ [b], inbox := .turn :: rest }) h.no_send_request
      (.inr rfl) hready hq).trans (hexec rest)
  exact hchunk.append hturn

/-- A byte that is answered by a write, and the write's completion (42_sequencer.md R168). -/
theorem runs_exchange {b : Byte} (h : Listening s)
    (hexec : ∀ rest, exec (decodeRx b) { s with inbox := rest } = .next { t with inbox := rest })
    (hbusy : t.txBusy = true) (hsend : t.sendReq = none) :
    Runs (deliver b ++ [writeDone]) s { t with txBusy := false } := by
  exact (runs_deliver h hexec).append (runs_chanEvt hsend rfl fun _ => exec_writeDoneOk_of_busy hbusy)

end

/-! ### The states of the transfer -/

/-- The transfer begun in `b` with SENDING = 1, no write outstanding and the cursor at `k`: the packets before the cursor
are acknowledged, `p` was the last byte in, and `sent` has been written. -/
def sendingAt (b : State) (k : Nat) (p : Byte) (sent : List Bytes) : State :=
  { b with
    cursor := BitVec.ofNat 32 k
    written := BitVec.ofNat 32 (min ((k - 1) * Config.ackStride) b.total.toNat)
    sending := true
    prevValid := true
    prevByte := p
    txBusy := false
    tx := b.tx ++ sent }

section
variable {b : State} {k : Nat} {p : Byte} {sent : List Bytes}

theorem Listening.sendingAt (h : Listening b) (k : Nat) (p : Byte) (sent : List Bytes) :
    Listening (sendingAt b k p sent) :=
  { h with not_busy := rfl }

/-- The first C gets the header (42_sequencer.md R155). -/
theorem runs_askHeader {f : Bytes} (h : Listening b) (hcur : b.cursor = 0#32) (hwritten : b.written = 0#32)
    (hprev : b.prevValid = false) (hf : b.pkt[0]? = some f) :
    Runs (deliver Config.byteC ++ [writeDone]) b (sendingAt b 0 Config.byteC [f]) := by
  have hc : b.cursor < b.count := by
    rw [BitVec.lt_def, hcur, ← h.pkt_length]
    exact (List.getElem?_eq_some_iff.mp hf).1
  have hfresh : b.prevIsC = false := by simp [State.prevIsC, hprev]
  have hstate : { notePrev Config.byteC { txWrite f b with sending := true } with txBusy := false } =
      sendingAt b 0 Config.byteC [f] := by
    simp [sendingAt, notePrev, txWrite, hcur, hwritten]
  rw [← hstate]
  exact runs_exchange h (fun rest => exec_rxC_sends hc hfresh (hcur ▸ hf)) rfl h.no_send_request

/-- The ACK of the header moves the cursor and is not answered (42_sequencer.md R156). -/
theorem runs_ackHeader (h : Listening b) :
    Runs (deliver Config.byteAck) (sendingAt b 0 p sent) (sendingAt b 1 Config.byteAck sent) :=
  runs_deliver (h.sendingAt 0 p sent) fun _ => exec_rxAck_header rfl rfl

/-- A C after the header's ACK gets the first data packet (42_sequencer.md R155). -/
theorem runs_askData {f : Bytes} (h : Listening b) (hf : b.pkt[1]? = some f) :
    Runs (deliver Config.byteC ++ [writeDone]) (sendingAt b 1 Config.byteAck sent)
      (sendingAt b 1 Config.byteC (sent ++ [f])) := by
  have hc : 1#32 < b.count := by
    rw [BitVec.lt_def, ← h.pkt_length]
    exact (List.getElem?_eq_some_iff.mp hf).1
  have hstate : { notePrev Config.byteC { txWrite f (sendingAt b 1 Config.byteAck sent) with sending := true } with
      txBusy := false } = sendingAt b 1 Config.byteC (sent ++ [f]) := by
    simp [sendingAt, notePrev, txWrite]
  rw [← hstate]
  exact runs_exchange (h.sendingAt 1 _ sent) (fun rest => exec_rxC_sends hc rfl hf) rfl h.no_send_request

/-- For a file without data packets that C gets EOS (42_sequencer.md R155). -/
theorem runs_askEos (h : Listening b) (hc : b.count ≤ 1#32) :
    Runs (deliver Config.byteC ++ [writeDone]) (sendingAt b 1 Config.byteAck sent)
      (sendingAt b 1 Config.byteC (sent ++ [eosFrame])) := by
  have hstate : { notePrev Config.byteC (txWrite eosFrame (sendingAt b 1 Config.byteAck sent)) with
      txBusy := false } = sendingAt b 1 Config.byteC (sent ++ [eosFrame]) := by
    simp [sendingAt, notePrev, txWrite]
  rw [← hstate]
  exact runs_exchange (h.sendingAt 1 _ sent) (fun rest => exec_rxC_past hc) rfl h.no_send_request

/-- A cursor up to COUNT is its number. -/
theorem toNat_ofNat_of_le {k : Nat} {c : Word} (h : k ≤ c.toNat) : (BitVec.ofNat 32 k).toNat = k := by
  rw [BitVec.toNat_ofNat, Nat.mod_eq_of_lt (h.trans_lt c.isLt)]

/-- The ACK of a data packet gets what comes next of the packets and EOT (42_sequencer.md R156, R164). -/
theorem runs_ackData {w : Bytes} (h : Listening b) (hk : 0 < k) (hc : k < b.count.toNat)
    (hw : (b.pkt ++ [eotString])[k + 1]? = some w) :
    Runs (deliver Config.byteAck ++ [writeDone]) (sendingAt b k p sent)
      (sendingAt b (k + 1) Config.byteAck (sent ++ [w])) := by
  have htoNat : (BitVec.ofNat 32 k).toNat = k := toNat_ofNat_of_le hc.le
  have hpos : BitVec.ofNat 32 k ≠ 0#32 := fun hzero => by
    rw [hzero] at htoNat
    exact hk.ne htoNat
  have hlt : BitVec.ofNat 32 k < b.count := by rwa [BitVec.lt_def, htoNat]
  have hstate : { notePrev Config.byteAck (txWrite w { sendingAt b k p sent with
        written := BitVec.ofNat 32 (min ((BitVec.ofNat 32 k).toNat * Config.ackStride) b.total.toNat)
        cursor := BitVec.ofNat 32 k + 1#32 }) with txBusy := false } =
      sendingAt b (k + 1) Config.byteAck (sent ++ [w]) := by
    rw [htoNat, ← BitVec.ofNat_add]
    simp [sendingAt, notePrev, txWrite]
  rw [← hstate]
  refine runs_exchange (h.sendingAt k p sent) (fun rest => ?_) rfl h.no_send_request
  exact exec_rxAck_data h.pkt_length rfl hpos hlt (htoNat.symm ▸ hw)

/-- Acknowledged once each, the data packets from the cursor on and EOT are written (42_sequencer.md R156). -/
theorem runs_ackAll {m : Nat} (h : Listening b) (hk : 0 < k) (hend : k + m = b.count.toNat) :
    ∃ q, Runs (List.replicate m (deliver Config.byteAck ++ [writeDone])).flatten
      (sendingAt b k p ((b.pkt ++ [eotString]).take (k + 1)))
      (sendingAt b b.count.toNat q (b.pkt ++ [eotString])) := by
  induction m generalizing k p with
  | zero =>
    have hall : (b.pkt ++ [eotString]).take (k + 1) = b.pkt ++ [eotString] :=
      List.take_of_length_le (by rw [List.length_append, h.pkt_length, ← hend]; rfl)
    rw [hall, ← hend]
    exact ⟨p, Runs.nil _⟩
  | succ m ih =>
    have hin : k + 1 < (b.pkt ++ [eotString]).length := by
      rw [List.length_append, h.pkt_length, List.length_singleton]
      omega
    have hw := List.getElem?_eq_getElem hin
    obtain ⟨q, hrest⟩ := ih (k := k + 1) (p := Config.byteAck) (by omega) (by omega)
    rw [List.take_add_one, hw, Option.toList_some] at hrest
    rw [List.replicate_succ, List.flatten_cons]
    exact ⟨q, (runs_ackData h hk (by omega) hw).append hrest⟩

/-- The state after the ACK of EOT or EOS (42_sequencer.md R156). -/
def sessionEndedAt (b : State) (k : Nat) (sent : List Bytes) : State :=
  { sendingAt b k Config.byteAck sent with sending := false, sessionActive := false }

/-- The state after the ACK that closes (42_sequencer.md R156, R166). -/
def closedAt (b : State) (k : Nat) (sent : List Bytes) : State :=
  notePrev Config.byteAck (close .finalAck (sessionEndedAt b k sent))

theorem close_with_inbox (r : CloseReason) (s : State) (inbox : List Input) :
    close r { s with inbox := inbox } = { close r s with inbox := inbox } := by
  unfold close
  split <;> rfl

theorem runs_ackEnd (h : Listening b) (hpos : b.count ≠ 0#32) :
    Runs (deliver Config.byteAck ++ deliver Config.byteAck) (sendingAt b b.count.toNat p sent)
      (closedAt b b.count.toNat sent) := by
  have hcur : BitVec.ofNat 32 b.count.toNat = b.count := by simp
  have hpast : BitVec.ofNat 32 b.count.toNat ≠ 0#32 := hcur.symm ▸ hpos
  have heot : Runs (deliver Config.byteAck) (sendingAt b b.count.toNat p sent)
      (sessionEndedAt b b.count.toNat sent) :=
    runs_deliver (h.sendingAt _ p sent) fun _ =>
      exec_rxAck_eot rfl hpast (BitVec.le_of_eq hcur.symm)
  refine heot.append (runs_deliver { h with not_busy := rfl } fun rest => ?_)
  refine (exec_rxAck_closes rfl).trans ?_
  rw [close_with_inbox, closedAt]
  rfl

/-- The closed transfer of a file whose bytes are all written has delivered one DONE with its length, and has succeeded
(42_sequencer.md R166, R172). -/
theorem closedAt_success (h : Listening b)
    (hall : BitVec.ofNat 32 (min ((k - 1) * Config.ackStride) b.total.toNat) = b.total) :
    (closedAt b k sent).tx = b.tx ++ sent
      ∧ (closedAt b k sent).hostOut = b.hostOut ++ [.done ⟨b.name, b.total, b.total⟩]
      ∧ (closedAt b k sent).final = true ∧ (closedAt b k sent).succeeded = true := by
  refine ⟨close_tx .., ?hostOut, succeeded_of_close (s := sessionEndedAt b k sent) h.not_finished rfl hall _⟩
  case hostOut =>
    rw [closedAt, close_of_open (s := sessionEndedAt b k sent) h.not_finished]
    exact congrArg (fun n => b.hostOut ++ [HostOut.done ⟨b.name, b.total, n⟩]) hall

/-- What the receiver of a smooth transfer gets: the header, every data packet in order and EOT, or the header and EOS
(95_test_vectors.md E5, E6). -/
def smoothStream (hdr file : Bytes) : List Bytes :=
  [hdr] ++ if file = [] then [eosFrame] else dataFrames file ++ [eotString]

/-- After the header's ACK the receiver gets the rest of the stream (42_sequencer.md R155, R156, R164). -/
theorem runs_packets {hdr file : Bytes} (h : Listening b) (hpkt : b.pkt = hdr :: dataFrames file) :
    ∃ q, Runs (deliver Config.byteC ++ [writeDone]
        ++ (List.replicate (chunkCount file.length) (deliver Config.byteAck ++ [writeDone])).flatten)
      (sendingAt b 1 Config.byteAck [hdr])
      (sendingAt b b.count.toNat q (smoothStream hdr file)) := by
  have hcount : 1 + chunkCount file.length = b.count.toNat := by
    rw [← h.pkt_length, hpkt, List.length_cons, dataFrames_length, Nat.add_comm]
  by_cases hempty : file = []
  · subst hempty
    have hc : b.count ≤ 1#32 := BitVec.le_def.mpr hcount.ge
    rw [← hcount, smoothStream, if_pos rfl]
    exact ⟨Config.byteC, (runs_askEos h hc).append (Runs.nil _)⟩
  · have hsome : 0 < (dataFrames file).length := by
      have := List.length_pos_of_ne_nil hempty
      rw [dataFrames_length, chunkCount_eq]
      omega
    obtain ⟨f, fs, hfs⟩ := List.exists_cons_of_length_pos hsome
    rw [hfs] at hpkt
    obtain ⟨q, hacks⟩ := runs_ackAll (p := Config.byteC) h Nat.one_pos hcount
    rw [hpkt] at hacks
    rw [smoothStream, if_neg hempty, hfs]
    exact ⟨q, (runs_askData h (hpkt ▸ rfl)).append hacks⟩

end

/-! ### The whole transfer -/

/-- The state just after a START with an accepted header (42_sequencer.md R150, R152). -/
def begun (name file : Bytes) (s : State) : State :=
  beginTransfer name file (frame Config.markerShort 0#8 (hdrPayload name file.length) :: dataFrames file) s

section
variable {s : State} {name file : Bytes} (h : s.Inv) (hc : headerFault name file.length = none)
include h hc

theorem inv_begun : (begun name file s).Inv := inv_beginTransfer h hc

/-- With the cursor past the last packet of the transfer every byte of the file counts as written (42_sequencer.md
R157). -/
theorem begun_written_at_end :
    BitVec.ofNat 32 (min (((begun name file s).count.toNat - 1) * Config.ackStride) (begun name file s).total.toNat) =
      (begun name file s).total := by
  have hcount := (inv_begun h hc).count_eq ((inv_begun h hc).subscribed_started rfl)
  have hcover := le_chunkCount_mul (begun name file s).total.toNat
  rw [hcount, Nat.add_sub_cancel_left, Config.ackStride, min_eq_right hcover, BitVec.ofNat_toNat, BitVec.setWidth_eq]

theorem begun_listening (hbusy : s.txBusy = false) : Listening (begun name file s) where
  subscribed := rfl
  not_finished := rfl
  not_busy := hbusy
  rxq_empty := rfl
  no_send_request := h.no_send_request
  pkt_length := (inv_begun h hc).pkt_length

/-- The smooth transfer runs from an idle block to the closed transfer. -/
theorem runs_smoothTransfer (hsub : s.subscribed = false) (hbusy : s.txBusy = false) :
    Runs (smoothTransfer name file (chunkCount file.length)) s
      (closedAt (begun name file s) (begun name file s).count.toNat
        (smoothStream (frame Config.markerShort 0#8 (hdrPayload name file.length)) file)) := by
  have hlisten := begun_listening h hc hbusy
  have hstart : Runs [.host 0x10#8 [.bytes name, .bytes file]] s (begun name file s) :=
    runs_hostCmd h.no_send_request rfl fun _ => exec_start_of_accepted hsub hbusy hc
  have hheader := (runs_askHeader hlisten rfl rfl rfl rfl).append (runs_ackHeader hlisten)
  obtain ⟨q, hpackets⟩ := runs_packets hlisten rfl
  have hstarted := (inv_begun h hc).subscribed_started rfl
  simpa only [smoothTransfer, List.append_assoc] using
    hstart.append (hheader.append (hpackets.append (runs_ackEnd hlisten hstarted)))

end

/-- Settles O60: the run is START, the header's exchange, the packets' and the two closing ACKs, and what it sends and
tells is read off the state it ends in. -/
theorem smoothTransferSucceeds : Obligations.SmoothTransferSucceeds := by
  intro s name file h hsub hbusy hc hin
  have hrun := runs_smoothTransfer h hc hsub hbusy []
  rw [List.append_nil, with_own_inbox hin, ← hin] at hrun
  obtain ⟨htx, hhost, hfinal, hsucceeded⟩ :=
    closedAt_success (sent := smoothStream (frame Config.markerShort 0#8 (hdrPayload name file.length)) file)
      (begun_listening h hc hbusy) (begun_written_at_end h hc)
  exact ⟨_, hrun, htx.trans (List.append_assoc ..).symm, hhost, hfinal, hsucceeded, rfl⟩

end Sys2Proof.Machine
end

section
/-! Proofs: which events are refused, and what a recorded fault comes with (60_exceptions.md R202 to R205). -/

namespace Sys2Proof.Machine

/-! ### Refusals -/

/-- The next instruction, if there is one, is one that 60_exceptions.md R203 refuses in `s`: the list of the rule without
the forms that do not decode. -/
def Refuses (s : State) (next : Option Instr) : Prop :=
  (∃ buf start len seed, next = some (.crc buf start len seed) ∧ (buf.length < start + len ∨ 0xFFFF < seed))
  ∨ (∃ name file, next = some (.start name file) ∧ (s.subscribed = true ∨ s.txBusy = true))
  ∨ ((next = some .writeDoneOk ∨ next = some .writeDoneFail) ∧ s.txBusy = false)
  ∨ next = some (.rxChunk [])

section
variable {s t : State} {i : Instr}

@[simp] theorem not_refuses_none : ¬ Refuses s none := by simp [Refuses]

/-- An operation that refuses under one test and otherwise answers is refused exactly under that test. -/
theorem refused_ite_iff {c : Prop} [Decidable c] {q : Refusal} {o : Out} (ho : ∀ r, o ≠ .refused r) :
    (∃ r, (if c then Host.Outcome.refused q else o) = .refused r) ↔ c := by
  split
  · next hc => simp [hc]
  · next hc => simp [hc, ho]

theorem andThen_ne_refused {o : Out} {f : State → State} {r : Refusal} (ho : o ≠ .refused r) :
    andThen o f ≠ .refused r := by
  cases o with
  | refused q => exact ho
  | next | fault => nofun

/-- SENDPACKET is no event, so nothing of it is refused (42_sequencer.md R164). -/
theorem sendPacket_ne_refused (r : Refusal) : sendPacket s ≠ .refused r := by
  unfold sendPacket
  repeat' split
  all_goals nofun

theorem ackReaction_ne_refused (r : Refusal) : ackReaction s ≠ .refused r := by
  unfold ackReaction
  repeat' split
  · nofun
  · nofun
  · exact sendPacket_ne_refused r
  · exact sendPacket_ne_refused r

theorem execRxC_ne_refused (r : Refusal) : execRxC s ≠ .refused r := by
  unfold execRxC
  repeat' split
  · nofun
  · exact andThen_ne_refused (sendPacket_ne_refused r)
  · nofun

/-- An inbound byte is never refused: the decoder and the reactions are total on it (60_exceptions.md R203). -/
theorem exec_rxByte_ne_refused (hrx : i.format = .rxByte) (r : Refusal) : exec i s ≠ .refused r := by
  cases i with
  | rxC => exact execRxC_ne_refused r
  | rxAck => exact andThen_ne_refused (ackReaction_ne_refused r)
  | rxNak => exact andThen_ne_refused (sendPacket_ne_refused r)
  | rxCa | rxOther => nofun
  | _ => cases hrx

/-- R203 names no inbound byte. -/
theorem not_refuses_rxByte (hrx : i.format = .rxByte) : ¬ Refuses s (some i) := by
  cases i with
  | rxC | rxAck | rxNak | rxCa | rxOther => simp [Refuses]
  | _ => cases hrx

/-- Outside of the outbound rows `exec` refuses exactly the instructions that R203 names. -/
theorem exec_refused_iff (hrow : i.format ≠ .outbound) : (∃ r, exec i s = .refused r) ↔ Refuses s (some i) := by
  cases i with
  | rxC | rxAck | rxNak | rxCa | rxOther =>
    exact iff_of_false (fun ⟨r, hr⟩ => exec_rxByte_ne_refused rfl r hr) (not_refuses_rxByte rfl)
  | crc => exact (refused_ite_iff (by nofun)).trans (by simp [Refuses])
  | buildHeader => simp only [exec, execBuildHeader]; split <;> simp [Refuses]
  | buildData => simp only [exec, execBuildData]; split <;> simp [Refuses]
  | start => exact (refused_ite_iff (by split <;> nofun)).trans (by simp [Refuses])
  | abort => simp only [exec, execAbort]; split <;> simp [Refuses]
  | reset => simp [exec, execReset, Refuses]
  | rxChunk => exact (refused_ite_iff (by split <;> nofun)).trans (by simp [Refuses])
  | writeDoneOk => exact (refused_ite_iff (by nofun)).trans (by simp [Refuses])
  | writeDoneFail => exact (refused_ite_iff (by split <;> nofun)).trans (by simp [Refuses])
  | soh128 | stx1024 | eot | eos => exact absurd rfl hrow

/-- A register read faults or answers: it is never refused (10_state.md R36). -/
theorem hostRead_ne_refused {reg : Reg} (r : Refusal) : hostRead reg s ≠ .refused r := by
  unfold hostRead
  split <;> nofun

/-- A step that runs an encoded form is refused exactly when the form does not decode or R203 names what it decodes to;
taking the form off must leave what R203 tests as it was. -/
theorem step_refused_iff_of_run {raw : Raw} (hf : fetch s = .run raw t)
    (hrow : ∀ i, decode raw = .ok i → i.format ≠ .outbound) (ht : Refuses t = Refuses s) :
    (∃ r, step s = .refused r) ↔ (∃ e, decode raw = .error e) ∨ Refuses s s.nextInstr := by
  cases hd : decode raw with
  | ok i => simpa [step_of_run hf hd, State.nextInstr, hf, hd, ht] using exec_refused_iff (s := t) (hrow i hd)
  | error e => simp [step, State.nextInstr, hf, hd]

end

/-- Settles O49: a host command or a channel event is refused when it does not decode or R203 names it; RESET and an
inbound byte always decode; a register read and a wait are not refused. -/
theorem refusedEventsExactly : Obligations.RefusedEventsExactly := by
  intro s h
  have hf := fetch_of_noSend h.no_send_request
  change _ ↔ _ ∨ _ ∨ Refuses s s.nextInstr
  rcases nextInput_cases s with ⟨op, args, rest, hin, e⟩ | ⟨ev, args, rest, hin, e⟩ | ⟨rest, hin, e⟩ |
    ⟨reg, rest, hin, e⟩ | ⟨b, q, rest, -, -, hin, e⟩ | ⟨rest, -, hin, e⟩
  · have hrow i (hd : decode (.hostCmd op args) = .ok i) : i.format ≠ .outbound := decode_host_format hd ▸ nofun
    simpa [hin] using step_refused_iff_of_run (hf.trans e) hrow rfl
  · have hrow i (hd : decode (.chanEvt ev args) = .ok i) : i.format ≠ .outbound := decode_chan_format hd ▸ nofun
    simpa [hin] using step_refused_iff_of_run (hf.trans e) hrow rfl
  · have hrow i (hd : decode .resetSignal = .ok i) : i.format ≠ .outbound := Except.ok.inj hd ▸ nofun
    simpa [hin, decode] using step_refused_iff_of_run (hf.trans e) hrow rfl
  · simp [step, State.nextInstr, hf.trans e, hin, hostRead_ne_refused]
  · have hrow i (hd : decode (.rxByte b) = .ok i) : i.format ≠ .outbound :=
      Except.ok.inj hd ▸ decodeRx_format b ▸ nofun
    rcases hin with ⟨hin, -⟩ | hin <;>
      simpa [hin, decode] using step_refused_iff_of_run (hf.trans e) hrow rfl
  · rcases hin with ⟨hin, -⟩ | hin <;> simp [step, State.nextInstr, hf.trans e, hin]

/-! ### Recorded faults -/

/-- A fault is recorded by the instruction `next`, told of the states before and after it: ERROR goes out with the cause,
IO_ERROR is a failed outstanding write's, and every other cause is START's (60_exceptions.md R202, R204, R205). -/
def ReportsFault (s : State) (next : Option Instr) (t : State) : Prop :=
  t.hostOut = s.hostOut ++ [.error t.faultCause]
    ∧ (t.faultCause = .ioError → next = some .writeDoneFail ∧ s.txBusy = true)
    ∧ (t.faultCause ≠ .ioError → ∃ name file, next = some (.start name file))

/-- An instruction keeps FAULT_CAUSE, clears it, or records a fault and reports it (60_exceptions.md R202). -/
theorem Effect.faultCause_cases {s t : State} {i : Instr} (he : Effect s i t) :
    t.faultCause = s.faultCause ∨ t.faultCause = .none ∨ ReportsFault s (some i) t := by
  cases he with
  | startRejected _ _ hc =>
    exact .inr (.inr ⟨rfl, fun hio => absurd hio (headerFault_ne_ioError hc), fun _ => ⟨_, _, rfl⟩⟩)
  | writeFailed hbusy => exact .inr (.inr ⟨rfl, fun _ => ⟨rfl, hbusy⟩, absurd rfl⟩)
  | started | reset => exact .inr (.inl rfl)
  | ackCloses | caCloses => exact .inl (by simp)
  | _ => exact .inl rfl

/-- Settles O57: the only effects that record a cause are those of a rejected START and of a failed write. -/
theorem faultIsReportedWhenRecorded : Obligations.FaultIsReportedWhenRecorded := by
  intro s t h hstep hchanged hrecorded
  rcases step_effect h.no_send_request hstep with ⟨i, rest, hi, -, he⟩ | ⟨b, q, rest, hi, -, -, he⟩ |
    ⟨-, rest, rfl | ⟨r, v, rfl⟩⟩
  · exact hi ▸ (he.faultCause_cases.resolve_left hchanged).resolve_left hrecorded
  · exact hi ▸ (he.faultCause_cases.resolve_left hchanged).resolve_left hrecorded
  · exact absurd rfl hchanged
  · exact absurd rfl hchanged

end Sys2Proof.Machine
end

section
/-! Proofs: RESET and the hazards of the start-up (70_reset_and_hazards.md R230, R237). -/

namespace Sys2Proof.Machine

/-! ### The start-up hazards -/

section
variable {s t : State}

/-- A START with an accepted header that answers has begun the transfer (42_sequencer.md R150). -/
theorem eq_begun_of_exec_start {name file : Bytes} (hc : headerFault name file.length = none)
    (hexec : exec (.start name file) s = .next t) : t = begun name file s := by
  cases exec_effect hexec with
  | wroteRow hrow => cases hrow
  | startRejected _ _ hfault => cases hc.symm.trans hfault
  | started => rfl

/-- An ACK with SENDING = 0 closes an open transfer: it reports WRITTEN as it stands, and sends nothing
(42_sequencer.md R156, R166). -/
theorem exec_rxAck_reports_written (hsend : s.sending = false) (hopen : s.finished = false) :
    ∃ t, exec .rxAck s = .next t ∧ t.closeReason = .finalAck ∧ t.resultValid = true ∧ t.resultWritten = s.written
      ∧ t.tx = s.tx := by
  refine ⟨_, exec_rxAck_closes hsend, ?_⟩
  rw [close_of_open hopen]
  exact ⟨rfl, rfl, rfl, rfl⟩

end

/-- Settles O33: START leaves SENDING = 0 and WRITTEN = 0, and so does a NAK, which sends the header, the packet at the
cursor; so an ACK closes with nothing written, at once or once the header is out. -/
theorem startUpHazards : Obligations.StartUpHazards := by
  intro name file s₀ s hc hexec
  obtain ⟨hcursor, -, hcount, -⟩ := afterSuccessfulStart name file s₀ s hc hexec
  have hheader : s.cursor < s.count := by
    rw [BitVec.lt_def, hcursor, hcount, BitVec.toNat_zero]
    omega
  obtain rfl := eq_begun_of_exec_start hc hexec
  refine ⟨exec_rxAck_reports_written rfl rfl, _, exec_rxNak_packet hheader rfl, rfl, rfl, ?ackAfterHeader⟩
  case ackAfterHeader =>
    obtain ⟨w, hack, hreason, hvalid, hwritten, -⟩ :=
      exec_rxAck_reports_written
        (s := { notePrev Config.byteNak (txWrite _ (begun name file s₀)) with txBusy := false }) rfl rfl
    exact ⟨_, w, exec_writeDoneOk_of_busy rfl, hack, hreason, hvalid, hwritten⟩

/-! ### RESET -/

/-- Settles O26: the registers of the answered state are those of the reset state, of which R44's table holds. -/
theorem resetSignal : Obligations.ResetSignal := by
  intro s
  obtain ⟨hname, hpkt, hcount, hcursor, htotal, hwritten, hactive, hsending, hfinished, hsubscribed, hbusy, hprevValid,
    hprevByte, hreason, hcause, hrxq, hvalid, -, -, -, hstatus⟩ := stateAfterReset
  exact ⟨_, rfl, hname, hpkt, hcount, hcursor, htotal, hwritten, hactive, hsending, hfinished, hsubscribed, hbusy,
    hprevValid, hprevByte, hreason, hcause, hvalid, hrxq, hstatus, rfl⟩

end Sys2Proof.Machine
end
